-- ==== Sys2Proof/Word.lean ====
section
/-! DEFINITION. The octet, the link symbol and the link word. 00_scope.md R11, 20_memory.md R70, 30_encoding.md R90. -/

namespace Sys2Proof

/-- "8-bit unit of link data" (R15). -/
abbrev Octet := BitVec 8

/-- One octet slot: the control flag `c` and the octet `d` of format SYM9 (R90, R91). -/
structure Sym where
  ctrl  : Bool
  octet : Octet
deriving DecidableEq, Repr

/-- A lane's payload of one cycle, slot 0 (first on the wire, `data[7:0]`, `ctrl[0]`) at the head (R11, R70).
A word of `DW` data bits and `OPC` flag bits is a list of `OPC` symbols. -/
abbrev LinkWord := List Sym

/-- A `DW`-bit word without flags (`tx_in`, `scr_out`, `dscr_out`): its octets, slot 0 at the head (R70). -/
abbrev DataWord := List Octet

/-- The LinkSettings register `CFG` and a lane's `CFG_n`: 14 octets, index 0 to 13 (20_memory.md R73). The type has no index
outside the register, so none can be read or written (R74). -/
abbrev Settings := Vector Octet 14

/-- The symbol with flag 0 and octet 0, what a slot of a register reset to 0 holds (R321). -/
def Sym.zero : Sym := ⟨false, 0⟩

/-- The data half of a link word. -/
def LinkWord.data (w : LinkWord) : DataWord := w.map Sym.octet

/-- The flag half of a link word. -/
def LinkWord.flags (w : LinkWord) : List Bool := w.map Sym.ctrl

end Sys2Proof
end

