-- ==== Sys2Proof/Config.lean ====
section
/-! DEFINITION. The implementation parameters of 00_scope.md R7. None of them is a register and no step changes them (R31, R80). -/

namespace Sys2Proof

/-- `CHECKSUM_MODE`, OPEN per link (R7, 41_link_settings.md R126). -/
inductive ChecksumMode where
  | octets
  | fields
deriving DecidableEq, Repr

/-- The parameters of R7. They are data of the state (log 4): a statement about every state holds for every value. -/
structure Params where
  dw          : Nat
  lids        : List Nat
  mode        : ChecksumMode
  ilasCounter : Bool
  strictIlas  : Bool
  lmfcLoad    : Nat
  nDesync     : Nat
  cntWidth    : Nat
deriving DecidableEq, Repr

/-- `OPC = DW/8`, octets per cycle per lane (R7). -/
def Params.opc (p : Params) : Nat := p.dw / 8

/-- `LID[n]`: the listed value, by default `n` (R7, 92_eei_decisions.md D39). -/
def Params.lid (p : Params) (n : Nat) : Nat := p.lids.getD n n

/-- DESIGN CHOICE (log 4), unsafe: the values of the spec's own examples (95_test_vectors.md section 2). R7 leaves them OPEN;
no statement rests on them. -/
def Params.ofExamples : Params :=
  { dw := 32, lids := [], mode := .octets, ilasCounter := true, strictIlas := true, lmfcLoad := 0, nDesync := 4, cntWidth := 8 }

/-- `SEED`, the reset state of scrambler and descrambler (R7, 43_scrambler.md R174). -/
def Config.seed : BitVec 15 := 0x7F80

end Sys2Proof
end

