-- ==== Sys2Proof/Syntax.lean ====
section
/-! DEFINITION. The operations of CORE: one constructor of `Instr` per row of spec/opcode_table.json (30_encoding.md R103).
A constructor's operands say which instance of the component steps (engine, lane, slot), the row's data, and those select
bits the row's mask leaves free, so that no bit of a select word is dropped. -/

namespace Sys2Proof

/-- The two engines, each with its own LMFC divider (00_scope.md R9). -/
inductive Engine where
  | tx
  | rx
deriving DecidableEq, Repr

/-- The 22 fields of the LinkSettings register, a closed enumeration (41_link_settings.md R120), in the order of their ids. -/
inductive Field where
  | DID | BID | ADJCNT | LID | PHADJ | ADJDIR | L | SCR | F | K | M | N | CS | NP | SUBCLASSV | S | JESDV | CF | HD
  | RES1 | RES2 | FCHK
deriving DecidableEq, Repr

/-- The select ports: one per component whose operation a row names (R103). The rows of one port are told apart by its
select bits alone; rows of different ports may have the same bits. -/
inductive Port where
  | sym | txFsm | rxFsm | lmfc | scr | descr | framer | alignIns | alignRepl | deframer | aligner
  | cgsGen | cgsCheck | ilasGen | ilasChk | ilasStart | txDesync | txSyncLoss | txAgg | rxIlasErr | rxSyncLoss | rxAgg | cfgop
deriving DecidableEq, Repr

/-- The operations. -/
inductive Instr where
  -- SYM9: the symbol in slot `slot` of RX lane `lane`'s input word (R91 to R94)
  | symR (lane slot : Nat)
  | symA (lane slot : Nat)
  | symQ (lane slot : Nat)
  | symK (lane slot : Nat)
  | symF (lane slot : Nat)
  | symData (lane slot : Nat) (d : Octet)
  | symReserved (lane slot : Nat) (d : Octet)
  -- TXSTATE2 and RXSTATE2: the FSM states (R37, R251, R252, R262)
  | txSendCgs (lane : Nat)
  | txSendIlas (lane : Nat)
  | txSendData (lane : Nat)
  | txIllegal (lane : Nat)
  | rxReceiveCgs (lane : Nat)
  | rxAssertSync (lane : Nat)
  | rxReceiveIlas (lane : Nat)
  | rxReceiveData (lane : Nat)
  -- SEL_RST_JREF_RISE2 (R152)
  | lmfcReset (e : Engine) (jrefRise : Bool)
  | lmfcLoad (e : Engine)
  | lmfcCount (e : Engine)
  -- SEL_RST_SCR2 (R172, R175)
  | scrReset (lane : Nat) (scr : Bool)
  | scrStep (lane : Nat)
  | scrBypass (lane : Nat)
  | descrReset (lane : Nat) (scr : Bool)
  | descrStep (lane : Nat)
  | descrBypass (lane : Nat)
  -- SEL_RST1 of the framer (R191), SEL_SLOT4 (R196), R198, R199
  | framerReset (lane : Nat)
  | framerStep (lane : Nat)
  | alignInsA (lane slot : Nat) (lastF eqFC : Bool)
  | alignInsF (lane slot : Nat) (eq7C : Bool)
  | alignInsPass (lane slot : Nat) (sel : BitVec 4)
  | alignReplClear (lane : Nat)
  | deframerPass (lane : Nat)
  -- SEL_RST_RFOUND2 (R203)
  | alignerReset (lane : Nat) (rFound : Bool)
  | alignerLatch (lane : Nat)
  | alignerHold (lane : Nat)
  -- preambles (R220, R221, R224, R228, R230)
  | cgsGen (lane : Nat)
  | cgsCheck (lane : Nat)
  | ilasGenReset (lane : Nat)
  | ilasGenStep (lane : Nat)
  | ilasChkReset (lane : Nat)
  | ilasChkStep (lane : Nat)
  | ilasStart (lane : Nat)
  -- timer, counters, aggregates (R254, R258, R259, R268, R270)
  | txDesync (lane : Nat)
  | txSyncLoss (lane : Nat)
  | txAgg
  | rxIlasErr (lane : Nat)
  | rxSyncLoss (lane : Nat)
  | rxAgg
  -- CFGOP (R122 to R134, R106)
  | cfgSetField (f : Field) (value : Nat)
  | cfgGetField (f : Field)
  | cfgRecompute
  | cfgSerialize
  | cfgDeserialize (b : List Nat)
  | cfgLinkBuild
  | cfgReserved (low : Bool)
deriving DecidableEq, Repr

end Sys2Proof
end

