-- ==== Sys2Proof/WellFormed.lean ====
section
/-! DEFINITION. Which terms of `Instr` are operations: the operands a record can hold, and the rows' priorities. -/

namespace Sys2Proof

/-- Lanes are numbered 0 to 31: L has natural values 1 to 32 (30_encoding.md R95). -/
def laneOk (n : Nat) : Bool := decide (n < 32)

/-- DESIGN CHOICE (log 2): a record holds the slot number in 16 bits. -/
def slotOk (j : Nat) : Bool := decide (j < 65536)

/-- The octet is one of the five named control characters (R92), so that with flag 1 it is no reserved symbol (R94). -/
def namedControl (d : Octet) : Bool := d == 0x1C || d == 0x7C || d == 0x9C || d == 0xBC || d == 0xFC

/-- The SEL_SLOT4 value selects ALIGN_INS.A (match 1010, mask 1010) or ALIGN_INS.F (match 0101, mask 1101): R103, opcode table. -/
def selInserts (sel : BitVec 4) : Bool := (sel &&& 10 == 10) || (sel &&& 13 == 5)

/-- Well-formedness of an operation. -/
def Instr.wf : Instr → Bool
  | .symR n j | .symA n j | .symQ n j | .symK n j | .symF n j => laneOk n && slotOk j
  | .symData n j _ => laneOk n && slotOk j
  | .symReserved n j d => laneOk n && slotOk j && !namedControl d
  | .txSendCgs n | .txSendIlas n | .txSendData n | .txIllegal n => laneOk n
  | .rxReceiveCgs n | .rxAssertSync n | .rxReceiveIlas n | .rxReceiveData n => laneOk n
  | .lmfcReset _ _ | .lmfcLoad _ | .lmfcCount _ => true
  | .scrReset n _ | .scrStep n | .scrBypass n => laneOk n
  | .descrReset n _ | .descrStep n | .descrBypass n => laneOk n
  | .framerReset n | .framerStep n => laneOk n
  | .alignInsA n j _ _ | .alignInsF n j _ => laneOk n && slotOk j
  | .alignInsPass n j sel => laneOk n && slotOk j && !selInserts sel
  | .alignReplClear n | .deframerPass n => laneOk n
  | .alignerReset n _ | .alignerLatch n | .alignerHold n => laneOk n
  | .cgsGen n | .cgsCheck n | .ilasGenReset n | .ilasGenStep n | .ilasChkReset n | .ilasChkStep n | .ilasStart n => laneOk n
  | .txDesync n | .txSyncLoss n | .rxIlasErr n | .rxSyncLoss n => laneOk n
  | .txAgg | .rxAgg => true
  | .cfgSetField _ v => decide (v < 4294967296)
  | .cfgGetField _ | .cfgRecompute | .cfgSerialize | .cfgLinkBuild | .cfgReserved _ => true
  | .cfgDeserialize b => decide (b.length < 256) && b.all (fun x => decide (x < 65536))

end Sys2Proof
end

