-- ==== Sys2Proof/Decode.lean ====
section
/-! DEFINITION. Select words and operation records: the decoder of spec/opcode_table.json and the encoder (30_encoding.md R90 to R107).

`decodeSel` is the table: a port, its select word and the instance give the operation. Inside a cycle the engines use it on
their own control bits. `decode` reads a record of bytes that the environment presents on a port: the select word (two
bytes for SYM9, one byte for every other port), then the operand bytes (log 2; the spec gives operands no bits). -/

namespace Sys2Proof

/-- K28.y is `(y << 5) | 28` (R93). -/
def kChar (y : Nat) : Octet := (BitVec.ofNat 8 y <<< 5) ||| 28

/-- `/R/` = K28.0 (R92). -/
def charR : Octet := kChar 0
/-- `/A/` = K28.3 (R92; 90_conflicts.md C1 overrules the source's 0xBC). -/
def charA : Octet := kChar 3
/-- `/Q/` = K28.4 (R92). -/
def charQ : Octet := kChar 4
/-- `/K/` = K28.5 (R92). -/
def charK : Octet := kChar 5
/-- `/F/` = K28.7 (R92). -/
def charF : Octet := kChar 7

/-- The 9 bits `{c, d[7:0]}` of a symbol (R90). -/
def symCode (x : Sym) : Nat := x.octet.toNat + (if x.ctrl then 256 else 0)

/-- Why a record is no operation. -/
inductive DecodeError where
  /-- the record is shorter than its select word and operands -/
  | truncated
  /-- a bit above the port's select bits is 1 -/
  | reservedBits
  /-- the engine byte is neither 0 (TX) nor 1 (RX) -/
  | badEngine
  /-- the lane byte is above 31 -/
  | badLane
  /-- the field id is above 21 (41_link_settings.md R120) -/
  | badField
  /-- a byte after the operands is not 0 -/
  | trailing
  /-- a configuration operation on the select lines of a running engine -/
  | notASelect
deriving DecidableEq, Repr

/-- Field ids 0 to 21 (41_link_settings.md R120). -/
def Field.id : Field → Nat
  | .DID => 0 | .BID => 1 | .ADJCNT => 2 | .LID => 3 | .PHADJ => 4 | .ADJDIR => 5 | .L => 6 | .SCR => 7 | .F => 8 | .K => 9
  | .M => 10 | .N => 11 | .CS => 12 | .NP => 13 | .SUBCLASSV => 14 | .S => 15 | .JESDV => 16 | .CF => 17 | .HD => 18
  | .RES1 => 19 | .RES2 => 20 | .FCHK => 21

/-- All fields in id order (R120). -/
def Field.all : List Field :=
  [.DID, .BID, .ADJCNT, .LID, .PHADJ, .ADJDIR, .L, .SCR, .F, .K, .M, .N, .CS, .NP, .SUBCLASSV, .S, .JESDV, .CF, .HD,
   .RES1, .RES2, .FCHK]

/-- The field with an id (R120). -/
def Field.ofId (n : Nat) : Option Field := Field.all[n]?

/-- SYM9 (R91, R92, R94): `c = 0` is data, `c = 1` one of the five named characters, and, at lowest priority, reserved. -/
def decodeSym (c : Bool) (d : Octet) (lane slot : Nat) : Instr :=
  if c = false then .symData lane slot d
  else if d = charR then .symR lane slot
  else if d = charA then .symA lane slot
  else if d = charQ then .symQ lane slot
  else if d = charK then .symK lane slot
  else if d = charF then .symF lane slot
  else .symReserved lane slot d

/-- A select word of one bit. -/
def sel1 (sel : Nat) (one zero : Instr) : Except DecodeError Instr :=
  if sel = 0 then .ok zero else if sel = 1 then .ok one else .error .reservedBits

/-- A port without select bits (format SEL_NONE0). -/
def sel0 (sel : Nat) (i : Instr) : Except DecodeError Instr := if sel = 0 then .ok i else .error .reservedBits

/-- A select word of two bits. -/
def sel2 (sel : Nat) (s0 s1 s2 s3 : Instr) : Except DecodeError Instr :=
  if sel = 0 then .ok s0 else if sel = 1 then .ok s1 else if sel = 2 then .ok s2 else if sel = 3 then .ok s3
  else .error .reservedBits

/-- SEL_SLOT4 `{last_mf, last_f, octet = 7C, octet = FC}` with the rows' priorities (R103, R196). -/
def decodeSlot4 (sel : BitVec 4) (lane slot : Nat) : Instr :=
  if sel &&& 10 = 10 then .alignInsA lane slot (sel.getLsbD 2) (sel.getLsbD 0)
  else if sel &&& 13 = 5 then .alignInsF lane slot (sel.getLsbD 1)
  else .alignInsPass lane slot sel

/-- The engine an LMFC instance number stands for (log 2). -/
def Engine.ofNum (n : Nat) : Option Engine := if n = 0 then some .tx else if n = 1 then some .rx else none

/-- The instance number of an engine's LMFC divider (log 2). -/
def Engine.num : Engine → Nat
  | .tx => 0
  | .rx => 1

/-- The opcode table: the operation that select word `sel` of port `p` names, on instance (`lane`, `slot`). On the LMFC port
`lane` is the engine's number. R103: within a port the rows are exclusive and, with their priorities, total. -/
def decodeSel (p : Port) (sel lane slot : Nat) : Except DecodeError Instr :=
  match p with
  | .sym => if sel < 512 then .ok (decodeSym (decide (256 ≤ sel)) (BitVec.ofNat 8 sel) lane slot) else .error .reservedBits
  | .txFsm => sel2 sel (.txSendCgs lane) (.txSendIlas lane) (.txSendData lane) (.txIllegal lane)
  | .rxFsm => sel2 sel (.rxReceiveCgs lane) (.rxAssertSync lane) (.rxReceiveIlas lane) (.rxReceiveData lane)
  | .lmfc =>
    match Engine.ofNum lane with
    | none => .error .badEngine
    | some e => sel2 sel (.lmfcCount e) (.lmfcLoad e) (.lmfcReset e false) (.lmfcReset e true)
  | .scr => sel2 sel (.scrBypass lane) (.scrStep lane) (.scrReset lane false) (.scrReset lane true)
  | .descr => sel2 sel (.descrBypass lane) (.descrStep lane) (.descrReset lane false) (.descrReset lane true)
  | .framer => sel1 sel (.framerReset lane) (.framerStep lane)
  | .alignIns => if sel < 16 then .ok (decodeSlot4 (BitVec.ofNat 4 sel) lane slot) else .error .reservedBits
  | .alignRepl => sel0 sel (.alignReplClear lane)
  | .deframer => sel0 sel (.deframerPass lane)
  | .aligner => sel2 sel (.alignerHold lane) (.alignerLatch lane) (.alignerReset lane false) (.alignerReset lane true)
  | .cgsGen => sel0 sel (.cgsGen lane)
  | .cgsCheck => sel0 sel (.cgsCheck lane)
  | .ilasGen => sel1 sel (.ilasGenReset lane) (.ilasGenStep lane)
  | .ilasChk => sel1 sel (.ilasChkReset lane) (.ilasChkStep lane)
  | .ilasStart => sel0 sel (.ilasStart lane)
  | .txDesync => sel0 sel (.txDesync lane)
  | .txSyncLoss => sel0 sel (.txSyncLoss lane)
  | .txAgg => sel0 sel .txAgg
  | .rxIlasErr => sel0 sel (.rxIlasErr lane)
  | .rxSyncLoss => sel0 sel (.rxSyncLoss lane)
  | .rxAgg => sel0 sel .rxAgg
  | .cfgop => .error .notASelect

/-- The number whose little-endian octets are `b`. -/
def leNat : List Octet → Nat
  | [] => 0
  | x :: t => x.toNat + 256 * leNat t

/-- The `k` little-endian octets of a number. -/
def leOctets : Nat → Nat → List Octet
  | 0, _ => []
  | k + 1, v => BitVec.ofNat 8 v :: leOctets k (v / 256)

/-- A record is padded with zero bytes and nothing else. -/
def padded (rest : List Octet) (i : Instr) : Except DecodeError Instr :=
  if rest.all (· == 0) then .ok i else .error .trailing

/-- The `k` 16-bit elements of an import array, and the rest. -/
def takeElems : Nat → List Octet → Option (List Nat × List Octet)
  | 0, rest => some ([], rest)
  | k + 1, a :: b :: rest =>
    match takeElems k rest with
    | some (xs, r) => some (leNat [a, b] :: xs, r)
    | none => none
  | _ + 1, _ => none

/-- CFGOP records: the operation number (R103, R106), then the operands: field id, value (4 bytes), or the array's length and
its 16-bit elements (log 2). -/
def decodeCfg (op : Octet) (args : List Octet) : Except DecodeError Instr :=
  if op = 0 then
    match args with
    | f :: v0 :: v1 :: v2 :: v3 :: rest =>
      match Field.ofId f.toNat with
      | some fld => padded rest (.cfgSetField fld (leNat [v0, v1, v2, v3]))
      | none => .error .badField
    | _ => .error .truncated
  else if op = 1 then
    match args with
    | f :: rest =>
      match Field.ofId f.toNat with
      | some fld => padded rest (.cfgGetField fld)
      | none => .error .badField
    | _ => .error .truncated
  else if op = 2 then padded args .cfgRecompute
  else if op = 3 then padded args .cfgSerialize
  else if op = 4 then
    match args with
    | k :: rest =>
      match takeElems k.toNat rest with
      | some (xs, r) => padded r (.cfgDeserialize xs)
      | none => .error .truncated
    | _ => .error .truncated
  else if op = 5 then padded args .cfgLinkBuild
  else if op = 6 then padded args (.cfgReserved false)
  else if op = 7 then padded args (.cfgReserved true)
  else .error .reservedBits

/-- A record on a select port, once its select word, instance and rest are cut out. -/
def decodeAt (p : Port) (sel lane slot : Nat) (rest : List Octet) : Except DecodeError Instr :=
  if lane < 32 then
    match decodeSel p sel lane slot with
    | .ok i => padded rest i
    | .error e => .error e
  else .error .badLane

/-- The decoder, total on every port and every list of bytes. -/
def decode (p : Port) (b : List Octet) : Except DecodeError Instr :=
  match p with
  | .sym =>
    match b with
    | s0 :: s1 :: n :: j0 :: j1 :: rest => decodeAt .sym (leNat [s0, s1]) n.toNat (leNat [j0, j1]) rest
    | _ => .error .truncated
  | .alignIns =>
    match b with
    | s0 :: n :: j0 :: j1 :: rest => decodeAt .alignIns s0.toNat n.toNat (leNat [j0, j1]) rest
    | _ => .error .truncated
  | .txAgg | .rxAgg =>
    match b with
    | s0 :: rest => decodeAt p s0.toNat 0 0 rest
    | _ => .error .truncated
  | .cfgop =>
    match b with
    | op :: args => decodeCfg op args
    | _ => .error .truncated
  | _ =>
    match b with
    | s0 :: n :: rest => decodeAt p s0.toNat n.toNat 0 rest
    | _ => .error .truncated

/-! ## The encoder -/

/-- The port an operation belongs to. -/
def Instr.port : Instr → Port
  | .symR _ _ | .symA _ _ | .symQ _ _ | .symK _ _ | .symF _ _ | .symData _ _ _ | .symReserved _ _ _ => .sym
  | .txSendCgs _ | .txSendIlas _ | .txSendData _ | .txIllegal _ => .txFsm
  | .rxReceiveCgs _ | .rxAssertSync _ | .rxReceiveIlas _ | .rxReceiveData _ => .rxFsm
  | .lmfcReset _ _ | .lmfcLoad _ | .lmfcCount _ => .lmfc
  | .scrReset _ _ | .scrStep _ | .scrBypass _ => .scr
  | .descrReset _ _ | .descrStep _ | .descrBypass _ => .descr
  | .framerReset _ | .framerStep _ => .framer
  | .alignInsA _ _ _ _ | .alignInsF _ _ _ | .alignInsPass _ _ _ => .alignIns
  | .alignReplClear _ => .alignRepl
  | .deframerPass _ => .deframer
  | .alignerReset _ _ | .alignerLatch _ | .alignerHold _ => .aligner
  | .cgsGen _ => .cgsGen
  | .cgsCheck _ => .cgsCheck
  | .ilasGenReset _ | .ilasGenStep _ => .ilasGen
  | .ilasChkReset _ | .ilasChkStep _ => .ilasChk
  | .ilasStart _ => .ilasStart
  | .txDesync _ => .txDesync
  | .txSyncLoss _ => .txSyncLoss
  | .txAgg => .txAgg
  | .rxIlasErr _ => .rxIlasErr
  | .rxSyncLoss _ => .rxSyncLoss
  | .rxAgg => .rxAgg
  | .cfgSetField _ _ | .cfgGetField _ | .cfgRecompute | .cfgSerialize | .cfgDeserialize _ | .cfgLinkBuild | .cfgReserved _ => .cfgop

/-- A bit as a number. -/
def bit (b : Bool) : Nat := if b then 1 else 0

/-- The select word of an operation: the row's `match`, with the bits its mask leaves free taken from the operands. -/
def Instr.sel : Instr → Nat
  | .symR _ _ => 0x11C
  | .symA _ _ => 0x17C
  | .symQ _ _ => 0x19C
  | .symK _ _ => 0x1BC
  | .symF _ _ => 0x1FC
  | .symData _ _ d => d.toNat
  | .symReserved _ _ d => 256 + d.toNat
  | .txSendCgs _ => 0
  | .txSendIlas _ => 1
  | .txSendData _ => 2
  | .txIllegal _ => 3
  | .rxReceiveCgs _ => 0
  | .rxAssertSync _ => 1
  | .rxReceiveIlas _ => 2
  | .rxReceiveData _ => 3
  | .lmfcReset _ r => 2 + bit r
  | .lmfcLoad _ => 1
  | .lmfcCount _ => 0
  | .scrReset _ s => 2 + bit s
  | .scrStep _ => 1
  | .scrBypass _ => 0
  | .descrReset _ s => 2 + bit s
  | .descrStep _ => 1
  | .descrBypass _ => 0
  | .framerReset _ => 1
  | .framerStep _ => 0
  | .alignInsA _ _ lf fc => 10 + 4 * bit lf + bit fc
  | .alignInsF _ _ a => 5 + 2 * bit a
  | .alignInsPass _ _ sel => sel.toNat
  | .alignReplClear _ => 0
  | .deframerPass _ => 0
  | .alignerReset _ r => 2 + bit r
  | .alignerLatch _ => 1
  | .alignerHold _ => 0
  | .cgsGen _ => 0
  | .cgsCheck _ => 0
  | .ilasGenReset _ => 1
  | .ilasGenStep _ => 0
  | .ilasChkReset _ => 1
  | .ilasChkStep _ => 0
  | .ilasStart _ => 0
  | .txDesync _ => 0
  | .txSyncLoss _ => 0
  | .txAgg => 0
  | .rxIlasErr _ => 0
  | .rxSyncLoss _ => 0
  | .rxAgg => 0
  | .cfgSetField _ _ => 0
  | .cfgGetField _ => 1
  | .cfgRecompute => 2
  | .cfgSerialize => 3
  | .cfgDeserialize _ => 4
  | .cfgLinkBuild => 5
  | .cfgReserved low => 6 + bit low

/-- The 16-bit elements of an import array. -/
def elemOctets : List Nat → List Octet
  | [] => []
  | x :: t => leOctets 2 x ++ elemOctets t

/-- The operand bytes of an operation (log 2). -/
def Instr.args : Instr → List Octet
  | .symR n j | .symA n j | .symQ n j | .symK n j | .symF n j => BitVec.ofNat 8 n :: leOctets 2 j
  | .symData n j _ | .symReserved n j _ => BitVec.ofNat 8 n :: leOctets 2 j
  | .txSendCgs n | .txSendIlas n | .txSendData n | .txIllegal n => [BitVec.ofNat 8 n]
  | .rxReceiveCgs n | .rxAssertSync n | .rxReceiveIlas n | .rxReceiveData n => [BitVec.ofNat 8 n]
  | .lmfcReset e _ | .lmfcLoad e | .lmfcCount e => [BitVec.ofNat 8 e.num]
  | .scrReset n _ | .scrStep n | .scrBypass n => [BitVec.ofNat 8 n]
  | .descrReset n _ | .descrStep n | .descrBypass n => [BitVec.ofNat 8 n]
  | .framerReset n | .framerStep n => [BitVec.ofNat 8 n]
  | .alignInsA n j _ _ | .alignInsF n j _ | .alignInsPass n j _ => BitVec.ofNat 8 n :: leOctets 2 j
  | .alignReplClear n | .deframerPass n => [BitVec.ofNat 8 n]
  | .alignerReset n _ | .alignerLatch n | .alignerHold n => [BitVec.ofNat 8 n]
  | .cgsGen n | .cgsCheck n | .ilasGenReset n | .ilasGenStep n | .ilasChkReset n | .ilasChkStep n | .ilasStart n => [BitVec.ofNat 8 n]
  | .txDesync n | .txSyncLoss n | .rxIlasErr n | .rxSyncLoss n => [BitVec.ofNat 8 n]
  | .txAgg | .rxAgg => []
  | .cfgSetField f v => BitVec.ofNat 8 f.id :: leOctets 4 v
  | .cfgGetField f => [BitVec.ofNat 8 f.id]
  | .cfgRecompute | .cfgSerialize | .cfgLinkBuild | .cfgReserved _ => []
  | .cfgDeserialize b => BitVec.ofNat 8 b.length :: elemOctets b

/-- The select bytes: two for SYM9 (9 bits), one for every other port. -/
def selBytes (p : Port) (sel : Nat) : List Octet := leOctets (if p = .sym then 2 else 1) sel

/-- The encoder: the record of an operation on its port. -/
def encode (i : Instr) : List Octet := selBytes i.port i.sel ++ i.args

/-! ## The host's view of the table -/

/-- DESIGN CHOICE (log 3): the table's words carry no port. A word of more than 8 bits is read on the symbol port, a word of
3 bits on the configuration port, and any other on the only port with a wider select byte, SEL_SLOT4. -/
def tablePort (nbits w : Nat) : Port := if 8 < nbits then .sym else if w < 8 then .cfgop else .alignIns

/-- The record of a table word: its bytes, and zeros up to the longest operand part. -/
def tableBytes (nbits w : Nat) : List Octet := leOctets ((nbits + 7) / 8) w ++ List.replicate 8 0

/-- What the decoder reads from a table word. -/
def decodeTableWord (nbits w : Nat) : Option Instr :=
  match decode (tablePort nbits w) (tableBytes nbits w) with
  | .ok i => some i
  | .error _ => none

end Sys2Proof
end

