-- ==== Sys2Proof/Machine/State.lean ====
section
/-! DEFINITION. What the machine holds (10_state.md), the reasons a step stops, and the state after reset (70_reset_and_hazards.md R321). -/

namespace Sys2Proof.Machine

open Sys2Proof

/-! ## Registers -/

/-- An LMFC divider's registers, one instance per engine (10_state.md R33). -/
structure Lmfc where
  /-- `lmfc_count`, 0 ≤ x < C -/
  count    : Nat
  /-- `jref_prev` -/
  jrefPrev : Bool
deriving DecidableEq, Repr

/-- A TX lane's registers (10_state.md R34). -/
structure TxLane where
  /-- `tx_state`, the 2-bit code of R37 -/
  state      : BitVec 2
  /-- `ilas_idx`, 0 ≤ x < LEN -/
  ilasIdx    : Nat
  /-- `scr_state` -/
  scrState   : BitVec 15
  /-- `scr_out`, DW bits -/
  scrOut     : DataWord
  /-- `scr_valid` -/
  scrValid   : Bool
  /-- `fr_cnt`, 0 ≤ x < C -/
  frCnt      : Nat
  /-- `desync_cnt`, 0 ≤ x ≤ N_DESYNC -/
  desyncCnt  : Nat
  /-- `tx_sync_loss_cnt`, CNT_WIDTH bits -/
  syncLoss   : Nat
deriving DecidableEq, Repr

/-- An RX lane's registers (10_state.md R35). -/
structure RxLane where
  /-- `rx_state`, the 2-bit code of R37 -/
  state      : BitVec 2
  /-- `al_prev_data` and `al_prev_ctrl`, slot by slot -/
  alPrev     : LinkWord
  /-- `al_off`, 0 ≤ x < OPC -/
  alOff      : Nat
  /-- `ic_in_data` and `ic_in_ctrl`, slot by slot -/
  icIn       : LinkWord
  /-- `ic_idx`, 0 ≤ x < LEN -/
  icIdx      : Nat
  /-- `dscr_state` -/
  dscrState  : BitVec 15
  /-- `dscr_out`, DW bits -/
  dscrOut    : DataWord
  /-- `dscr_valid` -/
  dscrValid  : Bool
  /-- `rx_ilas_err_cnt`, CNT_WIDTH bits -/
  ilasErr    : Nat
  /-- `rx_sync_loss_cnt`, CNT_WIDTH bits -/
  syncLoss   : Nat
deriving DecidableEq, Repr

/-- The RX engine's aggregate registers (10_state.md R36). -/
structure RxAgg where
  /-- `rx_jsync_agg` -/
  jsync : Bool
  /-- `rx_ready_agg` -/
  ready : Bool
deriving DecidableEq, Repr

/-- Every register of CORE (10_state.md R33 to R36). -/
structure Regs where
  txLmfc : Lmfc
  rxLmfc : Lmfc
  tx     : List TxLane
  rx     : List RxLane
  agg    : RxAgg
deriving DecidableEq, Repr

/-! ## Ports and signals -/

/-- The input ports (10_state.md R39): each engine's `rst`, `resync`, `jref`, the TX engine's `jsync` and `tx_in[n]`, the RX
engine's `rx_in[n]`. -/
structure Inputs where
  txRst    : Bool
  txResync : Bool
  txJref   : Bool
  jsync    : Bool
  txIn     : List DataWord
  rxRst    : Bool
  rxResync : Bool
  rxJref   : Bool
  rxIn     : List LinkWord
deriving DecidableEq, Repr

/-- A TX lane's combinational signals and outputs (10_state.md R38, R40), as last driven. -/
structure TxSig where
  /-- `tx_out` -/
  out      : LinkWord
  /-- `tx_ready` -/
  ready    : Bool
  /-- the CGS generator's word (R220) -/
  cgsWord  : LinkWord
  /-- `ilas_word` (R224) -/
  ilasWord : LinkWord
  /-- `ilas_done` (R224) -/
  ilasDone : Bool
  /-- `desync` (R254) -/
  desync   : Bool
  /-- `last_f` (R190) -/
  lastF    : List Bool
  /-- `last_mf` (R192) -/
  lastMf   : List Bool
  /-- the AlignInserter's flags (R196) -/
  insCtrl  : List Bool
deriving DecidableEq, Repr

/-- An RX lane's combinational signals and outputs (10_state.md R38, R40), as last driven. -/
structure RxSig where
  /-- `aligned_data` and `aligned_ctrl` (R203) -/
  aligned    : LinkWord
  /-- `cgs_valid` (R221) -/
  cgsValid   : Bool
  /-- `ilas_start_valid` (R230) -/
  startValid : Bool
  /-- `ic_valid` (R228) -/
  icValid    : Bool
  /-- `ic_done` (R228) -/
  icDone     : Bool
  /-- the AlignReplacer's word (R198) -/
  replaced   : LinkWord
  /-- the Deframer's word (R199) -/
  deframed   : DataWord
  /-- `rx_out` (R261) -/
  out        : DataWord
  /-- `rx_out_valid` (R261) -/
  outValid   : Bool
  /-- `rx_align` (R263) -/
  align      : Bool
  /-- `rx_jsync` (R264) -/
  jsync      : Bool
  /-- `rx_ready` (R265) -/
  ready      : Bool
deriving DecidableEq, Repr

/-- The signals of the cycle. No operation reads them: each operation computes the combinational values it needs from the
registers and inputs (R38), so the order of operations within a cycle does not matter (R341). -/
structure Sig where
  txLmfcZero : Bool
  txJrefRise : Bool
  rxLmfcZero : Bool
  rxJrefRise : Bool
  /-- the TX aggregate `tx_ready` (R259) -/
  txReady    : Bool
  tx         : List TxSig
  rx         : List RxSig
deriving DecidableEq, Repr

/-! ## Configuration -/

/-- Sub-causes of ConfigError (60_exceptions.md R292). -/
inductive ConfigCause where
  | DW | F_UNSUPPORTED | MSNP | FPC | K_FPC | ILAS_SHORT | LOAD
deriving DecidableEq, Repr

/-- The configuration errors (60_exceptions.md R291). They are returned to the caller, not faults of the machine. -/
inductive CfgError where
  | configError (cause : ConfigCause)
  | checksumMismatch
  /-- `RangeError(id)` for a field, `RangeError(IMPORT)` for `none` -/
  | rangeError (field : Option Field)
deriving DecidableEq, Repr

/-- What the last configuration operation returned to its caller (R290; log 10). -/
inductive Reply where
  | none
  | done
  | value (v : Nat)
  | octets (b : List Octet)
  | built
  | error (e : CfgError)
deriving DecidableEq, Repr

/-- A built link (41_link_settings.md R134, R136): its parameters and settings, and per lane the serialized settings `CFG_n` and
the ILAS table `ILAS_n`. The derived constants of R8 are computed from it and not stored. -/
structure Link where
  params  : Params
  cfg     : Settings
  laneCfg : List Settings
  table   : List (List LinkWord)
deriving DecidableEq, Repr

/-! ## Programs -/

/-- One cycle of stimulus (30_encoding.md R105): the inputs of R39, `rx_in` as 9-bit symbol codes (R90). -/
structure CycleInputs where
  txRst    : Bool
  txResync : Bool
  txJref   : Bool
  jsync    : Bool
  txIn     : List DataWord
  rxRst    : Bool
  rxResync : Bool
  rxJref   : Bool
  rxIn     : List (List (BitVec 9))
deriving DecidableEq, Repr

/-- What the environment presents in one step: an operation's record on a select port, or a whole cycle of stimulus (log 1). -/
inductive Item where
  | op (port : Port) (bytes : List Octet)
  | cycle (inputs : CycleInputs)
deriving DecidableEq, Repr

/-! ## The state -/

/-- The state of one CORE: the configuration (parameters, LinkSettings register, built link), the registers of both engines,
the ports and signals, and the program still to be presented. -/
structure State where
  params  : Params
  /-- the LinkSettings register `CFG`, octets 0 to 13 (10_state.md R42) -/
  cfg     : Settings
  link    : Option Link
  reply   : Reply
  /-- the registers' values in the current cycle: what every rule reads (R12) -/
  cur     : Regs
  /-- the registers' values at the end of the cycle: what every rule writes (R12) -/
  nxt     : Regs
  /-- the inputs as last presented (R39): a cycle of stimulus sets all of them, and a record reads them as they stand (log 29) -/
  inp     : Inputs
  sig     : Sig
  program : List Item
deriving DecidableEq, Repr

/-! ## Stops -/

/-- The faults. Each is safe: the machine stops where the spec asks a model to stop (R305) or where what is named does not exist. -/
inductive Fault where
  /-- `tx_state` is 11. Raised by TX.ILLEGAL, and by every operation of that lane and TX.AGG when they find it (30_encoding.md R104,
  60_exceptions.md R305). Safe. -/
  | txStateIllegal (lane : Nat)
  /-- CFGOP number 6 or 7. Raised by CFGOP.RESERVED (30_encoding.md R106). Safe. -/
  | cfgopReserved
  /-- `lmfc_count ≥ C`. Raised by the LMFC operations and by those that read `lmfc_zero`: TX.SEND_CGS, RX.RECEIVE_CGS and RX.AGG
  (60_exceptions.md R305). Safe. -/
  | lmfcCountRange (e : Engine)
  /-- An ILAS index outside 0 … LEN−1. Raised by the ILAS generator and checker, TX.SEND_ILAS, RX.RECEIVE_ILAS and the RX
  counters that read `ic_valid` (20_memory.md R74, 60_exceptions.md R305). Safe. -/
  | ilasIndexRange (lane : Nat)
  /-- `al_off ≥ OPC`. Raised by every operation of that RX lane (60_exceptions.md R305). Safe. -/
  | alignerOffsetRange (lane : Nat)
  /-- The lane has no instance. Raised by every per-lane operation (10_state.md R34, R35: 0 ≤ n < L). Safe. -/
  | noSuchLane (lane : Nat)
  /-- The slot does not exist. Raised by the symbol operations and the AlignInserter (00_scope.md R11: 0 ≤ j < OPC). Safe. -/
  | noSuchSlot (slot : Nat)
deriving DecidableEq, Repr

/-- The refusals. Each is safe: the machine stops. -/
inductive Refusal where
  /-- No meaning yet. Raised by `exec` alone. Safe. -/
  | notModelled (mnemonic : String)
  /-- An engine operation or a cycle before `link_build` succeeded (41_link_settings.md R136: an engine is never started on
  settings whose `link_build` failed). Raised by every engine operation. Safe. -/
  | linkNotBuilt
  /-- The presented record is no operation of its port. Raised by `step`. Safe. -/
  | undecodable (e : DecodeError)
  /-- The stimulus has not one word of OPC slots per lane (20_memory.md R77). Raised by `step`. Safe. -/
  | badStimulus
  /-- The environment presents nothing more (log 16). Raised by `step`. Safe. -/
  | programEnd
deriving DecidableEq, Repr

/-- The outcome of an operation or a step. -/
abbrev Out := Host.Outcome State Fault Refusal

/-! ## Reset -/

/-- LMFC registers after reset (R321). -/
def Lmfc.reset : Lmfc := ⟨0, false⟩

/-- A TX lane's registers after reset (R321), for `opc` octets per word. -/
def TxLane.reset (opc : Nat) : TxLane :=
  { state := 0, ilasIdx := 0, scrState := Config.seed, scrOut := List.replicate opc 0, scrValid := false, frCnt := 0,
    desyncCnt := 0, syncLoss := 0 }

/-- An RX lane's registers after reset (R321), for `opc` octets per word. -/
def RxLane.reset (opc : Nat) : RxLane :=
  { state := 0, alPrev := List.replicate opc Sym.zero, alOff := 0, icIn := List.replicate opc Sym.zero, icIdx := 0,
    dscrState := Config.seed, dscrOut := List.replicate opc 0, dscrValid := false, ilasErr := 0, syncLoss := 0 }

/-- All registers after reset (R321), for `lanes` lanes. -/
def Regs.reset (opc lanes : Nat) : Regs :=
  { txLmfc := Lmfc.reset, rxLmfc := Lmfc.reset, tx := List.replicate lanes (TxLane.reset opc),
    rx := List.replicate lanes (RxLane.reset opc), agg := ⟨false, false⟩ }

/-- Ports before the first stimulus: DESIGN CHOICE (log 11), all 0. -/
def Inputs.idle (opc lanes : Nat) : Inputs :=
  { txRst := false, txResync := false, txJref := false, jsync := false, txIn := List.replicate lanes (List.replicate opc 0),
    rxRst := false, rxResync := false, rxJref := false, rxIn := List.replicate lanes (List.replicate opc Sym.zero) }

/-- A TX lane's signals before they are first driven: DESIGN CHOICE (log 6), all 0. -/
def TxSig.idle (opc : Nat) : TxSig :=
  { out := List.replicate opc Sym.zero, ready := false, cgsWord := List.replicate opc Sym.zero,
    ilasWord := List.replicate opc Sym.zero, ilasDone := false, desync := false, lastF := List.replicate opc false,
    lastMf := List.replicate opc false, insCtrl := List.replicate opc false }

/-- An RX lane's signals before they are first driven: DESIGN CHOICE (log 6), all 0. -/
def RxSig.idle (opc : Nat) : RxSig :=
  { aligned := List.replicate opc Sym.zero, cgsValid := false, startValid := false, icValid := false, icDone := false,
    replaced := List.replicate opc Sym.zero, deframed := List.replicate opc 0, out := List.replicate opc 0, outValid := false,
    align := false, jsync := false, ready := false }

/-- All signals before they are first driven (log 6). -/
def Sig.idle (opc lanes : Nat) : Sig :=
  { txLmfcZero := false, txJrefRise := false, rxLmfcZero := false, rxJrefRise := false, txReady := false,
    tx := List.replicate lanes (TxSig.idle opc), rx := List.replicate lanes (RxSig.idle opc) }

/-- Power-on of a CORE with parameters `p` (70_reset_and_hazards.md R320, R321): the settings are 14 octets of 0 (R121), so L is
naturally 1 (R96) and each engine has one lane; no link is built. -/
def State.powerOn (p : Params) : State :=
  { params := p, cfg := Vector.replicate 14 0, link := none, reply := .none, cur := Regs.reset p.opc 1, nxt := Regs.reset p.opc 1,
    inp := Inputs.idle p.opc 1, sig := Sig.idle p.opc 1, program := [] }

/-- The machine right after reset, with the parameter values of log 4. -/
def State.reset : State := State.powerOn Params.ofExamples

end Sys2Proof.Machine
end

