-- ==== Sys2Proof/Machine/Operands.lean ====
section
/-! DEFINITION. Operand forms: the settings fields (R95, R96, R120 to R124), the storages (R13, R73), the link's derived constants
(R8), the words on the ports, and the select bits of each component (R103). -/

namespace Sys2Proof.Machine

open Sys2Proof

/-! ## Settings fields -/

/-- A field's static descriptor `(octet, offset, width, is_count)` (41_link_settings.md R120). -/
structure Descr where
  octet   : Fin 14
  off     : Nat
  width   : Nat
  isCount : Bool
deriving DecidableEq, Repr

/-- The descriptor table (R120, 30_encoding.md R95). -/
def fieldDescr : Field → Descr
  | .DID => ⟨0, 0, 8, false⟩
  | .BID => ⟨1, 0, 4, false⟩
  | .ADJCNT => ⟨1, 4, 4, false⟩
  | .LID => ⟨2, 0, 5, false⟩
  | .PHADJ => ⟨2, 5, 1, false⟩
  | .ADJDIR => ⟨2, 6, 1, false⟩
  | .L => ⟨3, 0, 5, true⟩
  | .SCR => ⟨3, 7, 1, false⟩
  | .F => ⟨4, 0, 8, false⟩
  | .K => ⟨5, 0, 8, true⟩
  | .M => ⟨6, 0, 8, true⟩
  | .N => ⟨7, 0, 5, true⟩
  | .CS => ⟨7, 6, 2, false⟩
  | .NP => ⟨8, 0, 5, true⟩
  | .SUBCLASSV => ⟨8, 5, 3, false⟩
  | .S => ⟨9, 0, 5, true⟩
  | .JESDV => ⟨9, 5, 3, false⟩
  | .CF => ⟨10, 0, 5, false⟩
  | .HD => ⟨10, 7, 1, false⟩
  | .RES1 => ⟨11, 0, 8, false⟩
  | .RES2 => ⟨12, 0, 8, false⟩
  | .FCHK => ⟨13, 0, 8, false⟩

/-- `(2^w − 1)` in an octet. -/
def lowMask (w : Nat) : Octet := BitVec.ofNat 8 (2 ^ w - 1)

/-- `MemRead(CFG, a, 1)` (00_scope.md R13). There is no index outside 0 to 13 (20_memory.md R74). -/
def memReadCfg (c : Settings) (a : Fin 14) : Octet := c.get a

/-- `MemWrite(CFG, a, 1, v)` (00_scope.md R13). -/
def memWriteCfg (c : Settings) (a : Fin 14) (v : Octet) : Settings := c.set a v

/-- `raw.X`: `(CFG[o] >> off) & (2^w − 1)` (R124). -/
def rawField (f : Field) (c : Settings) : Nat :=
  ((memReadCfg c (fieldDescr f).octet >>> (fieldDescr f).off) &&& lowMask (fieldDescr f).width).toNat

/-- `get_field(id)`: the natural value (R96, R123). -/
def getField (f : Field) (c : Settings) : Nat := if (fieldDescr f).isCount then rawField f c + 1 else rawField f c

/-- `(x & ~(((2^w)−1) << off)) | (v << off)` (R122). -/
def insertBits (x : Octet) (off w v : Nat) : Octet := (x &&& ~~~(lowMask w <<< off)) ||| (BitVec.ofNat 8 v <<< off)

/-- `stored` of R122 with its range check; `none` is a value that does not fit (a count of 0 would store −1). -/
def storedValue (f : Field) (value : Nat) : Option Nat :=
  if (fieldDescr f).isCount = true ∧ value = 0 then none
  else
    let stored := if (fieldDescr f).isCount then value - 1 else value
    if stored < 2 ^ (fieldDescr f).width then some stored else none

/-- `set_field(id, value)` (R122): RangeError, or the register with the field's bits written. -/
def setField (f : Field) (value : Nat) (c : Settings) : Except CfgError Settings :=
  match storedValue f value with
  | none => .error (.rangeError (some f))
  | some v =>
    let d := fieldDescr f
    .ok (memWriteCfg c d.octet (insertBits (memReadCfg c d.octet) d.off d.width v))

/-! ## The built link -/

/-- `OPC` of the link (R7). -/
def Link.opc (lk : Link) : Nat := lk.params.opc
/-- `F` (R8, R14). -/
def Link.f (lk : Link) : Nat := getField .F lk.cfg
/-- `K` (R8, R14). -/
def Link.k (lk : Link) : Nat := getField .K lk.cfg
/-- `L`, the number of lanes of each engine (R9). -/
def Link.lanes (lk : Link) : Nat := getField .L lk.cfg
/-- `FPC = OPC / F` (R8). -/
def Link.fpc (lk : Link) : Nat := lk.opc / lk.f
/-- `C = K / FPC`, cycles per multiframe (R8). -/
def Link.c (lk : Link) : Nat := lk.k / lk.fpc
/-- `LEN = 4 · C` (R8). -/
def Link.len (lk : Link) : Nat := 4 * lk.c
/-- `SCR`, scrambling enable (R136, R172). -/
def Link.scr (lk : Link) : Bool := getField .SCR lk.cfg == 1

/-- `MemRead(ILAS_n, i, 1)`, 0 ≤ i < LEN; `none` is an index outside the table, which faults (R13, R74). -/
def memReadIlas (lk : Link) (n i : Nat) : Option LinkWord :=
  if i < lk.len then
    match lk.table[n]? with
    | none => none
    | some t => t[i]?
  else none

/-! ## Words and bits -/

/-- The bits of an octet, bit 7 first (20_memory.md R71). -/
def octetBits (d : Octet) : List Bool :=
  [d.getLsbD 7, d.getLsbD 6, d.getLsbD 5, d.getLsbD 4, d.getLsbD 3, d.getLsbD 2, d.getLsbD 1, d.getLsbD 0]

/-- The octet with given bits, bit 7 first. -/
def bitsOctet (b7 b6 b5 b4 b3 b2 b1 b0 : Bool) : Octet :=
  BitVec.ofNat 8 (128 * bit b7 + 64 * bit b6 + 32 * bit b5 + 16 * bit b4 + 8 * bit b3 + 4 * bit b2 + 2 * bit b1 + bit b0)

/-- Octets from bits, eight at a time, bit 7 of the first octet first. -/
def packOctets : List Bool → List Octet
  | b7 :: b6 :: b5 :: b4 :: b3 :: b2 :: b1 :: b0 :: t => bitsOctet b7 b6 b5 b4 b3 b2 b1 b0 :: packOctets t
  | _ => []

/-- `swz(w)`: slot `j` moves to slot `OPC−1−j`, the bits inside an octet stay (43_scrambler.md R171). -/
def swz (w : DataWord) : DataWord := w.reverse

/-- The bits of a word from bit `DW−1` down to bit 0 (R10, R11). -/
def bitsDown (w : DataWord) : List Bool := w.reverse.flatMap octetBits

/-- The word with given bits, bit `DW−1` first. -/
def ofBitsDown (b : List Bool) : DataWord := (packOctets b).reverse

/-- The 15 bits of a state, `state[0]` first. -/
def stateBits (st : BitVec 15) : List Bool := (List.range 15).map st.getLsbD

/-- The number whose binary digits are given, least significant first. -/
def bitsNat : List Bool → Nat
  | [] => 0
  | b :: t => bit b + 2 * bitsNat t

/-- `full[14:0]` as a state. -/
def bitsState (b : List Bool) : BitVec 15 := BitVec.ofNat 15 (bitsNat (b.take 15))

/-- A data word as a link word with flags 0 (R196 "flags all 0"). -/
def plainWord (w : DataWord) : LinkWord := w.map (fun d => ⟨false, d⟩)

/-! ## Port words -/

/-- `tx_in[n]` (R39). -/
def State.txWord (s : State) (n : Nat) : DataWord := s.inp.txIn.getD n []

/-- `rx_in[n]` (R39). -/
def State.rxWord (s : State) (n : Nat) : LinkWord := s.inp.rxIn.getD n []

/-- An engine's `rst` input (R39). -/
def State.rst (s : State) : Engine → Bool
  | .tx => s.inp.txRst
  | .rx => s.inp.rxRst

/-- An engine's `jref` input (R39). -/
def State.jref (s : State) : Engine → Bool
  | .tx => s.inp.txJref
  | .rx => s.inp.rxJref

/-- An engine's LMFC registers, as read in the cycle. -/
def State.lmfc (s : State) : Engine → Lmfc
  | .tx => s.cur.txLmfc
  | .rx => s.cur.rxLmfc

end Sys2Proof.Machine
end

