-- ==== Sys2Proof/Machine/Flags.lean ====
section
/-! DEFINITION. The combinational flags of 10_state.md R38 and the reset domains (46_link_fsm.md R253, R266). None is stored: each is
a function of the registers of the current cycle and the inputs. -/

namespace Sys2Proof.Machine

open Sys2Proof

/-! ## State codes (R37) -/

/-- SEND_CGS = 00. -/
def sendCgs : BitVec 2 := 0
/-- SEND_ILAS = 01. -/
def sendIlas : BitVec 2 := 1
/-- SEND_DATA = 10. -/
def sendData : BitVec 2 := 2
/-- RECEIVE_CGS = 00. -/
def receiveCgs : BitVec 2 := 0
/-- ASSERT_SYNC = 01. -/
def assertSync : BitVec 2 := 1
/-- RECEIVE_ILAS = 10. -/
def receiveIlas : BitVec 2 := 2
/-- RECEIVE_DATA = 11. -/
def receiveData : BitVec 2 := 3

/-! ## LMFC (R150, R151) -/

/-- `jref_rise := jref ∧ ¬jref_prev` (R150). -/
def jrefRise (s : State) (e : Engine) : Bool := s.jref e && !(s.lmfc e).jrefPrev

/-- `lmfc_zero := (lmfc_count = 0)` (R151). -/
def lmfcZero (s : State) (e : Engine) : Bool := (s.lmfc e).count == 0

/-! ## Framer and AlignInserter (R190, R192, R196) -/

/-- `last_f[j] := ((j + 1) mod F = 0)` (R190). -/
def lastF (lk : Link) (j : Nat) : Bool := (j + 1) % lk.f == 0

/-- `last_mf[j] := (fr_cnt = C − 1) ∧ (j = OPC − 1)` (R192). -/
def lastMf (lk : Link) (l : TxLane) (j : Nat) : Bool := l.frCnt + 1 == lk.c && j + 1 == lk.opc

/-- `ctrl[j]` of the AlignInserter (R196). -/
def insertFlag (lk : Link) (l : TxLane) (j : Nat) (d : Octet) : Bool :=
  (lastMf lk l j && d == charA) || (lastF lk j && !lastMf lk l j && d == charF)

/-! ## ILAS generator and desync timer (R224, R254) -/

/-- `ilas_done := (ilas_idx = LEN − 1)` (R224). -/
def ilasDone (lk : Link) (l : TxLane) : Bool := l.ilasIdx + 1 == lk.len

/-- `desync := ¬jsync ∧ (desync_cnt + 1 ≥ N_DESYNC)` (R254). -/
def desync (lk : Link) (s : State) (l : TxLane) : Bool := !s.inp.jsync && decide (lk.params.nDesync ≤ l.desyncCnt + 1)

/-! ## TX reset domains (R253) -/

/-- `ilas_rst := rst ∨ (tx_state = SEND_CGS)`. -/
def ilasRst (s : State) (l : TxLane) : Bool := s.inp.txRst || l.state == sendCgs

/-- `scr_rst := fr_rst := rst ∨ (tx_state ∈ {SEND_CGS, SEND_ILAS})`. -/
def scrRst (s : State) (l : TxLane) : Bool := s.inp.txRst || l.state == sendCgs || l.state == sendIlas

/-! ## Aligner (R203) -/

/-- The symbol is `/R/` (R92). -/
def isR (x : Sym) : Bool := x.ctrl && x.octet == charR

/-- The lowest slot that holds `/R/`, counted from `j`. -/
def lowestR : Nat → LinkWord → Option Nat
  | _, [] => none
  | j, x :: t => if isR x then some j else lowestR (j + 1) t

/-- Some slot of the input word holds `/R/` (the select bit `r_found`). -/
def rFound (w : LinkWord) : Bool := w.any isR

/-- The aligned word: `{cur, prev}` sliced from octet `off` (R203). -/
def alignSlice (opc off : Nat) (prev cur : LinkWord) : LinkWord := ((prev ++ cur).drop off).take opc

/-- The aligned word of lane `n` in the current cycle. -/
def alignedWord (lk : Link) (s : State) (n : Nat) (l : RxLane) : LinkWord := alignSlice lk.opc l.alOff l.alPrev (s.rxWord n)

/-! ## Checkers (R221, R228, R230) -/

/-- `cgs_valid`: every flag is 1 and every octet `/K/` (R221). -/
def cgsValid (w : LinkWord) : Bool := w.all (fun x => x.ctrl && x.octet == charK)

/-- `ilas_start_valid`: flag 1 on slot 0 only, and `/R/`'s octet there (R230). -/
def ilasStartValid : LinkWord → Bool
  | [] => false
  | x :: t => x.ctrl && x.octet == charR && t.all (fun y => !y.ctrl)

/-- `ic_done := (ic_idx = LEN − 1)` (R228). -/
def icDone (lk : Link) (l : RxLane) : Bool := l.icIdx + 1 == lk.len

/-- `ic_valid`: the checker's input word equals the table's entry `e`, octets and flags (R228). -/
def icValid (l : RxLane) (e : LinkWord) : Bool := l.icIn == e

/-! ## RX reset domains (R266) and data path (R198 to R200) -/

/-- `ic_rst := rst ∨ (rx_state ≠ RECEIVE_ILAS)`. -/
def icRst (s : State) (l : RxLane) : Bool := s.inp.rxRst || l.state != receiveIlas

/-- `dscr_rst := rst ∨ (rx_state ≠ RECEIVE_DATA)`. -/
def dscrRst (s : State) (l : RxLane) : Bool := s.inp.rxRst || l.state != receiveData

/-- AlignReplacer: data unchanged, flags 0 (R198). -/
def replaceFlags (w : LinkWord) : LinkWord := w.map (fun x => ⟨false, x.octet⟩)

/-- Deframer: the identity on the data word (R199). -/
def deframe (w : LinkWord) : DataWord := w.data

/-- The descrambler's input word (R200). -/
def rxDataWord (lk : Link) (s : State) (n : Nat) (l : RxLane) : DataWord := deframe (replaceFlags (alignedWord lk s n l))

/-! ## Status outputs (R255, R263 to R265) -/

/-- `tx_ready[n]` (R255). -/
def txReady (l : TxLane) : Bool := l.state == sendData

/-- `rx_align[n]` (R263). -/
def rxAlign (l : RxLane) : Bool := l.state == receiveCgs

/-- `rx_jsync[n]` (R264). -/
def rxJsync (l : RxLane) : Bool := l.state == assertSync || l.state == receiveIlas || l.state == receiveData

/-- `rx_ready[n]` (R265). -/
def rxReady (l : RxLane) : Bool := l.state == receiveData

end Sys2Proof.Machine
end

