-- ==== Sys2Proof/Machine/Ops.lean ====
section
/-! DEFINITION. The shared operations: guards, register writes and signal drives, raising a configuration error (60_exceptions.md
R290), the checksum and validity checks, the ILAS table, the scrambling of a word, and the FSM transitions, the fall-back to a
CGS state (R296) among them. -/

namespace Sys2Proof.Machine

open Sys2Proof

/-! ## Outcomes and guards -/

/-- Go on with the next state. -/
def andThen (o : Out) (k : State → Out) : Out :=
  match o with
  | .next s => k s
  | .fault r => .fault r
  | .refused r => .refused r

/-- An engine operation runs on a built link only (R136). -/
def withLink (s : State) (k : Link → Out) : Out :=
  match s.link with
  | none => .refused .linkNotBuilt
  | some lk => k lk

/-- TX lane `n`'s registers of the current cycle, whatever they hold. -/
def withTxLane (n : Nat) (s : State) (k : Link → TxLane → Out) : Out :=
  withLink s fun lk =>
    match s.cur.tx[n]? with
    | none => .fault (.noSuchLane n)
    | some l => k lk l

/-- RX lane `n`'s registers of the current cycle, whatever they hold. -/
def withRxLane (n : Nat) (s : State) (k : Link → RxLane → Out) : Out :=
  withLink s fun lk =>
    match s.cur.rx[n]? with
    | none => .fault (.noSuchLane n)
    | some l => k lk l

/-- An operation of TX lane `n`: the state code 11 faults (R104, R305). -/
def withTx (n : Nat) (s : State) (k : Link → TxLane → Out) : Out :=
  withTxLane n s fun lk l => if l.state = 3 then .fault (.txStateIllegal n) else k lk l

/-- An operation of RX lane `n`: `al_off ≥ OPC` faults (R305). -/
def withRx (n : Nat) (s : State) (k : Link → RxLane → Out) : Out :=
  withRxLane n s fun lk l => if l.alOff < lk.opc then k lk l else .fault (.alignerOffsetRange n)

/-- An operation that reads RX lane `n`'s aligned word. -/
def withAligned (n : Nat) (s : State) (k : Link → RxLane → LinkWord → Out) : Out :=
  withRx n s fun lk l => k lk l (alignedWord lk s n l)

/-- An operation that reads an engine's `lmfc_count` or `lmfc_zero`: `lmfc_count ≥ C` faults (R305). -/
def withCount (e : Engine) (lk : Link) (s : State) (o : Out) : Out :=
  if (s.lmfc e).count < lk.c then o else .fault (.lmfcCountRange e)

/-- An LMFC operation. -/
def withLmfc (e : Engine) (s : State) (k : Link → Lmfc → Out) : Out :=
  withLink s fun lk => withCount e lk s (k lk (s.lmfc e))

/-- An operation that reads every TX lane's state: the code 11 in some lane faults (R104, R305). -/
def withTxStates (s : State) (o : Out) : Out :=
  match s.cur.tx.findIdx? (fun l => l.state == 3) with
  | some n => .fault (.txStateIllegal n)
  | none => o

/-- An operation on an ILAS entry: an index outside the table faults (R74, R305). -/
def withEntry (n i : Nat) (lk : Link) (k : LinkWord → Out) : Out :=
  match memReadIlas lk n i with
  | none => .fault (.ilasIndexRange n)
  | some w => k w

/-- An operation on slot `j` of the link word (R11). -/
def withSlot (j : Nat) (lk : Link) (o : Out) : Out := if j < lk.opc then o else .fault (.noSuchSlot j)

/-! ## Register writes (`<-`) and signal drives (`:=`), R12 -/

/-- Write TX lane `n`'s registers at the end of the cycle. -/
def State.setTx (s : State) (n : Nat) (f : TxLane → TxLane) : State := { s with nxt := { s.nxt with tx := s.nxt.tx.modify n f } }

/-- Write RX lane `n`'s registers at the end of the cycle. -/
def State.setRx (s : State) (n : Nat) (f : RxLane → RxLane) : State := { s with nxt := { s.nxt with rx := s.nxt.rx.modify n f } }

/-- Write an engine's LMFC registers at the end of the cycle. -/
def State.setLmfc (s : State) (e : Engine) (v : Lmfc) : State :=
  match e with
  | .tx => { s with nxt := { s.nxt with txLmfc := v } }
  | .rx => { s with nxt := { s.nxt with rxLmfc := v } }

/-- Write the RX aggregate registers at the end of the cycle. -/
def State.setAgg (s : State) (v : RxAgg) : State := { s with nxt := { s.nxt with agg := v } }

/-- Drive TX lane `n`'s signals. -/
def State.driveTx (s : State) (n : Nat) (f : TxSig → TxSig) : State := { s with sig := { s.sig with tx := s.sig.tx.modify n f } }

/-- Drive RX lane `n`'s signals. -/
def State.driveRx (s : State) (n : Nat) (f : RxSig → RxSig) : State := { s with sig := { s.sig with rx := s.sig.rx.modify n f } }

/-- Drive an engine's LMFC signals (R150, R151). -/
def State.driveLmfc (s : State) (e : Engine) : State :=
  match e with
  | .tx => { s with sig := { s.sig with txLmfcZero := lmfcZero s .tx, txJrefRise := jrefRise s .tx } }
  | .rx => { s with sig := { s.sig with rxLmfcZero := lmfcZero s .rx, rxJrefRise := jrefRise s .rx } }

/-- The clock edge: every write of the cycle takes effect together (R12, 20_memory.md R81). -/
def clockEdge (s : State) : State := { s with cur := s.nxt }

/-- A counter that saturates at `2^CNT_WIDTH − 1` (R258, R268). -/
def satInc (lk : Link) (x : Nat) : Nat := min (x + 1) (2 ^ lk.params.cntWidth - 1)

/-! ## Configuration: raise, checksum, validity (R290, R126, R133) -/

/-- `raise E(cause)` (60_exceptions.md R290): the caller gets the error, and everything else is as it was. -/
def raiseCfg (e : CfgError) (s : State) : Out := .next { s with reply := .error e }

/-- The numbers of the ConfigError sub-causes (R292). -/
def causeNumber : ConfigCause → Nat
  | .DW => 1
  | .F_UNSUPPORTED => 2
  | .MSNP => 3
  | .FPC => 4
  | .K_FPC => 5
  | .ILAS_SHORT => 6
  | .LOAD => 7

/-- The numeric error codes (R291). -/
def errorCode : CfgError → Nat
  | .configError _ => 1
  | .checksumMismatch => 2
  | .rangeError _ => 3

/-- The 19 fields the FIELDS checksum sums (R126): all but RES1, RES2 and FCHK. -/
def checksumFields : List Field :=
  [.DID, .BID, .ADJCNT, .LID, .PHADJ, .ADJDIR, .L, .SCR, .F, .K, .M, .N, .CS, .NP, .SUBCLASSV, .S, .JESDV, .CF, .HD]

/-- The sum of a list. -/
def sumNat : List Nat → Nat
  | [] => 0
  | x :: t => x + sumNat t

/-- `checksum(CFG, mode)` (R126). -/
def checksum (m : ChecksumMode) (c : Settings) : Octet :=
  match m with
  | .octets => BitVec.ofNat 8 (sumNat ((c.toList.take 11).map BitVec.toNat))
  | .fields => BitVec.ofNat 8 (sumNat (checksumFields.map (fun f => rawField f c)))

/-- `validate_settings()` (R133); the first failing check is the error (R293). -/
def validateSettings (c : Settings) : Except CfgError Unit :=
  if ¬(getField .F c = 1 ∨ getField .F c = 2 ∨ getField .F c = 4) then .error (.configError .F_UNSUPPORTED)
  else if getField .M c * getField .S c * getField .NP c ≠ 8 * getField .F c * getField .L c then .error (.configError .MSNP)
  else .ok ()

/-- `recompute_checksum()` (R125). -/
def recompute (m : ChecksumMode) (c : Settings) : Except CfgError Settings :=
  match validateSettings c with
  | .error e => .error e
  | .ok () => .ok (memWriteCfg c 13 (checksum m c))

/-- `deserialize(b)` (R128); RangeError comes before ChecksumMismatch (R293). -/
def deserialize (m : ChecksumMode) (b : List Nat) : Except CfgError Settings :=
  if h : b.length = 14 ∧ ∀ x ∈ b, x < 256 then
    let c : Settings := ⟨(b.map (BitVec.ofNat 8)).toArray, by simp [h.1]⟩
    if checksum m c ≠ memReadCfg c 13 then .error .checksumMismatch else .ok c
  else .error (.rangeError none)

/-- The settings of lane `n` (R130, D39): LID set to `LID[n]` and FCHK recomputed, whatever FCHK the register holds. The third bullet
of 70_reset_and_hazards.md R335 reads otherwise for a stale FCHK (log 28). -/
def laneSettings (m : ChecksumMode) (lid : Nat) (c : Settings) : Except CfgError Settings :=
  match setField .LID lid c with
  | .error e => .error e
  | .ok c' => recompute m c'

/-- The settings of lanes `n`, `n + 1`, …, `k` of them (R130). -/
def laneSettingsFrom (p : Params) (c : Settings) : Nat → Nat → Except CfgError (List Settings)
  | _, 0 => .ok []
  | n, k + 1 =>
    match laneSettings p.mode (p.lid n) c with
    | .error e => .error e
    | .ok x =>
      match laneSettingsFrom p c (n + 1) k with
      | .error e => .error e
      | .ok t => .ok (x :: t)

/-! ## ILAS content (R222, R223) -/

/-- Octet `p` of a lane's ILAS sequence, multiframes of `opm` octets (R222). -/
def ilasOctet (counter : Bool) (opm : Nat) (c : Settings) (p : Nat) : Sym :=
  let mf := p / opm
  let i := p % opm
  if i = 0 then ⟨true, charR⟩
  else if i = opm - 1 then ⟨true, charA⟩
  else if mf = 1 ∧ i = 1 then ⟨true, charQ⟩
  else if h : mf = 1 ∧ i ≤ 15 then ⟨false, memReadCfg c ⟨i - 2, by omega⟩⟩
  else ⟨false, if counter then BitVec.ofNat 8 p else 0⟩

/-- The ILAS table of a lane: entry `c`, slot `s` holds octet `c·OPC + s` (R223). -/
def ilasTable (counter : Bool) (opm opc len : Nat) (c : Settings) : List LinkWord :=
  (List.range len).map (fun e => (List.range opc).map (fun s => ilasOctet counter opm c (e * opc + s)))

/-- `link_build(…)` (R134), checks in its order (R293). -/
def linkBuild (p : Params) (c : Settings) : Except CfgError Link :=
  if p.dw < 8 ∨ p.dw % 8 ≠ 0 then .error (.configError .DW)
  else
    match validateSettings c with
    | .error e => .error e
    | .ok () =>
      let opc := p.opc
      let f := getField .F c
      let k := getField .K c
      if opc % f ≠ 0 then .error (.configError .FPC)
      else if k % (opc / f) ≠ 0 then .error (.configError .K_FPC)
      else
        let cyc := k / (opc / f)
        if k * f < 17 ∨ cyc < 2 then .error (.configError .ILAS_SHORT)
        else if ¬(p.lmfcLoad < cyc) then .error (.configError .LOAD)
        else
          match laneSettingsFrom p c 0 (getField .L c) with
          | .error e => .error e
          | .ok lanes =>
            .ok { params := p, cfg := c, laneCfg := lanes, table := lanes.map (ilasTable p.ilasCounter (k * f) opc (4 * cyc)) }

/-- A built link's engines at power-on: DESIGN CHOICE (log 8), step 3 of 70_reset_and_hazards.md R330 is taken with step 2. Every
register has its reset value (R321), one instance per lane (R9). -/
def instantiate (lk : Link) (s : State) : State :=
  { s with
    link := some lk
    cur := Regs.reset lk.opc lk.lanes
    nxt := Regs.reset lk.opc lk.lanes
    inp := Inputs.idle lk.opc lk.lanes
    sig := Sig.idle lk.opc lk.lanes }

/-- A change of the settings: the built link, if any, is gone until the next `link_build` (DEDUCED from R80, R330: log 9). -/
def changeSettings (c : Settings) (s : State) : State := { s with cfg := c, link := none, reply := .done }

/-! ## Scrambling a word (R172, R175) -/

/-- The loop of R172 for `i` from `DW−1` down to 0, over the bits of `D` from the top. `full` holds `full[i+1], full[i+2], …`
in this order, so `full[i+14]` and `full[i+15]` stand at positions 13 and 14. -/
def scrLoop : List Bool → List Bool → List Bool
  | [], full => full
  | d :: t, full => scrLoop t ((d ^^ full.getD 14 false ^^ full.getD 13 false) :: full)

/-- SCR.STEP: `scr_out` and `scr_state` (R172). -/
def scramble (st : BitVec 15) (w : DataWord) : DataWord × BitVec 15 :=
  let full := scrLoop (bitsDown (swz w)) (stateBits st)
  (swz (ofBitsDown (full.take (8 * w.length)).reverse), bitsState full)

/-- The loop of R175 for `i` from `DW−1` down to 0, over the bits of `S` from the top: the bits of `D`, top first. `full` holds
`full[i+1], full[i+2], …`. -/
def dscrLoop : List Bool → List Bool → List Bool
  | [], _ => []
  | b :: t, full => (b ^^ full.getD 13 false ^^ full.getD 14 false) :: dscrLoop t (b :: full)

/-- DESCR.STEP: `dscr_out` and `dscr_state` (R175); `full = {dscr_state, S}`. -/
def descramble (st : BitVec 15) (w : DataWord) : DataWord × BitVec 15 :=
  let sBits := bitsDown (swz w)
  (swz (ofBitsDown (dscrLoop sBits (stateBits st))), bitsState (sBits.reverse ++ stateBits st))

/-! ## Words sent (R220, R251, R196) -/

/-- The CGS word: `/K/` in every slot (R220). -/
def cgsWord (opc : Nat) : LinkWord := List.replicate opc ⟨true, charK⟩

/-- The AlignInserter's output word: `scr_out` with the flags of R196. -/
def insertedWord (lk : Link) (l : TxLane) : LinkWord := l.scrOut.zipIdx.map (fun x => ⟨insertFlag lk l x.2 x.1, x.1⟩)

/-! ## FSM transitions (R252, R262; the fall-back of R296) -/

/-- The first two lines of R252 and R262: `rst` and `resync` fall back to the CGS state (code 00 in both FSMs), whatever the
state (R256, R296); otherwise the state's own transition. -/
def orFallBack (rst resync : Bool) (own : BitVec 2) : BitVec 2 := if rst then 0 else if resync then 0 else own

/-- The transition of SEND_CGS (R252). -/
def nextSendCgs (s : State) : BitVec 2 :=
  orFallBack s.inp.txRst s.inp.txResync (if s.inp.jsync && lmfcZero s .tx then sendIlas else sendCgs)

/-- The transition of SEND_ILAS (R252). -/
def nextSendIlas (lk : Link) (s : State) (l : TxLane) : BitVec 2 :=
  orFallBack s.inp.txRst s.inp.txResync (if ilasDone lk l then sendData else sendIlas)

/-- The transition of SEND_DATA (R252). -/
def nextSendData (lk : Link) (s : State) (l : TxLane) : BitVec 2 :=
  orFallBack s.inp.txRst s.inp.txResync (if desync lk s l then sendCgs else sendData)

/-- The transition of RECEIVE_CGS (R262). -/
def nextReceiveCgs (s : State) (aligned : LinkWord) : BitVec 2 :=
  orFallBack s.inp.rxRst s.inp.rxResync (if lmfcZero s .rx && cgsValid aligned then assertSync else receiveCgs)

/-- The transition of ASSERT_SYNC (R262). -/
def nextAssertSync (s : State) (aligned : LinkWord) : BitVec 2 :=
  orFallBack s.inp.rxRst s.inp.rxResync (if ilasStartValid aligned then receiveIlas else assertSync)

/-- The transition of RECEIVE_ILAS (R262): a strict failure wins over `ic_done`. -/
def nextReceiveIlas (lk : Link) (s : State) (l : RxLane) (valid : Bool) : BitVec 2 :=
  orFallBack s.inp.rxRst s.inp.rxResync
    (if lk.params.strictIlas && !valid then receiveCgs else if icDone lk l then receiveData else receiveIlas)

/-- The transition of RECEIVE_DATA (R262). -/
def nextReceiveData (s : State) (aligned : LinkWord) : BitVec 2 :=
  orFallBack s.inp.rxRst s.inp.rxResync (if cgsValid aligned then receiveCgs else receiveData)

end Sys2Proof.Machine
end

