-- ==== Sys2Proof/Machine/Framing.lean ====
section
/-! DEFINITION. Framer, AlignInserter, AlignReplacer, Deframer and Aligner (44_framing_alignment.md R190 to R206). -/

namespace Sys2Proof.Machine

open Sys2Proof

/-- The masks `last_f` (R190) and `last_mf` (R192) of the current cycle. -/
def driveMasks (n : Nat) (lk : Link) (l : TxLane) (s : State) : State :=
  s.driveTx n fun x => { x with lastF := (List.range lk.opc).map (lastF lk), lastMf := (List.range lk.opc).map (lastMf lk l) }

/-- FRAMER.RESET (R191). -/
def execFramerReset (n : Nat) (s : State) : Out :=
  withTx n s fun lk l => .next ((driveMasks n lk l s).setTx n fun x => { x with frCnt := 0 })

/-- FRAMER.STEP (R191). -/
def execFramerStep (n : Nat) (s : State) : Out :=
  withTx n s fun lk l =>
    .next ((driveMasks n lk l s).setTx n fun x => { x with frCnt := if l.frCnt + 1 = lk.c then 0 else l.frCnt + 1 })

/-- The inserter's flag of slot `j`. The octet value is never changed (R196). -/
def insertAt (n j : Nat) (b : Bool) (s : State) : Out :=
  withTx n s fun lk _ => withSlot j lk (.next (s.driveTx n fun x => { x with insCtrl := x.insCtrl.set j b }))

/-- ALIGN_INS.A: the octet is sent as `/A/` (R196). -/
def execAlignInsA (n j : Nat) (s : State) : Out := insertAt n j true s

/-- ALIGN_INS.F: the octet is sent as `/F/` (R196). -/
def execAlignInsF (n j : Nat) (s : State) : Out := insertAt n j true s

/-- ALIGN_INS.PASS: the octet is sent as data (R196). -/
def execAlignInsPass (n j : Nat) (s : State) : Out := insertAt n j false s

/-- ALIGN_REPL.CLEAR (R198). -/
def execAlignReplClear (n : Nat) (s : State) : Out :=
  withAligned n s fun _ _ w => .next (s.driveRx n fun x => { x with replaced := replaceFlags w })

/-- DEFRAMER.PASS (R199), on the replacer's word (R200). -/
def execDeframerPass (n : Nat) (s : State) : Out :=
  withAligned n s fun lk l _ => .next (s.driveRx n fun x => { x with deframed := rxDataWord lk s n l })

/-- The Aligner's combinational output (R203). -/
def driveAligned (n : Nat) (w : LinkWord) (s : State) : State := s.driveRx n fun x => { x with aligned := w }

/-- ALIGNER.RESET (R203). -/
def execAlignerReset (n : Nat) (s : State) : Out :=
  withAligned n s fun lk _ w =>
    .next ((driveAligned n w s).setRx n fun x => { x with alPrev := List.replicate lk.opc Sym.zero, alOff := 0 })

/-- ALIGNER.LATCH (R203): the lowest slot that holds `/R/`. Run by itself on a word without `/R/`, it takes the pseudocode's
else branch and leaves `al_off` (log 14). -/
def execAlignerLatch (n : Nat) (s : State) : Out :=
  withAligned n s fun _ l w =>
    .next ((driveAligned n w s).setRx n fun x =>
      { x with alPrev := s.rxWord n, alOff := (lowestR 0 (s.rxWord n)).getD l.alOff })

/-- ALIGNER.HOLD (R203): `al_off` unchanged. -/
def execAlignerHold (n : Nat) (s : State) : Out :=
  withAligned n s fun _ _ w => .next ((driveAligned n w s).setRx n fun x => { x with alPrev := s.rxWord n })

end Sys2Proof.Machine
end

