-- ==== Sys2Proof/Machine/LinkFsm.lean ====
section
/-! DEFINITION. The link TX and RX state machines, the desync timer, the counters and the aggregates (46_link_fsm.md). -/

namespace Sys2Proof.Machine

open Sys2Proof

/-! ## TX -/

/-- One cycle of a TX state: its outputs (Moore, R251, R255) and the state register's next value (R252). -/
def txStep (n : Nat) (out : LinkWord) (ready : Bool) (next : BitVec 2) (s : State) : State :=
  (s.driveTx n fun x => { x with out := out, ready := ready }).setTx n fun x => { x with state := next }

/-- TX.SEND_CGS (R251, R252). -/
def execTxSendCgs (n : Nat) (s : State) : Out :=
  withTx n s fun lk _ => withCount .tx lk s (.next (txStep n (cgsWord lk.opc) false (nextSendCgs s) s))

/-- TX.SEND_ILAS (R251, R252): the table entry at `ilas_idx`. -/
def execTxSendIlas (n : Nat) (s : State) : Out :=
  withTx n s fun lk l => withEntry n l.ilasIdx lk fun w => .next (txStep n w false (nextSendIlas lk s l) s)

/-- TX.SEND_DATA (R251, R252): `scr_out` with the AlignInserter's flags. -/
def execTxSendData (n : Nat) (s : State) : Out :=
  withTx n s fun lk l => .next (txStep n (insertedWord lk l) true (nextSendData lk s l) s)

/-- TX.ILLEGAL: the state code 11 is found, and the model faults (30_encoding.md R104, 60_exceptions.md R305). -/
def execTxIllegal (n : Nat) (_s : State) : Out := .fault (.txStateIllegal n)

/-- TX.DESYNC (R254). -/
def execTxDesync (n : Nat) (s : State) : Out :=
  withTx n s fun lk l =>
    .next ((s.driveTx n fun x => { x with desync := desync lk s l }).setTx n fun x =>
      { x with desyncCnt := if s.inp.txRst || s.inp.jsync then 0 else min (l.desyncCnt + 1) lk.params.nDesync })

/-- TX.SYNC_LOSS (R258): exits from SEND_DATA, a reset not counted. -/
def execTxSyncLoss (n : Nat) (s : State) : Out :=
  withTx n s fun lk l =>
    .next (s.setTx n fun x =>
      { x with
        syncLoss :=
          if s.inp.txRst then 0
          else if l.state = sendData ∧ nextSendData lk s l = sendCgs then satInc lk l.syncLoss else l.syncLoss })

/-- TX.AGG (R259): combinational, no register. -/
def execTxAgg (s : State) : Out :=
  withLink s fun _ => withTxStates s (.next { s with sig := { s.sig with txReady := s.cur.tx.all txReady } })

/-! ## RX -/

/-- One cycle of an RX state: its outputs (Moore, R263 to R265) and the state register's next value (R262). -/
def rxStep (n : Nat) (align jsync ready : Bool) (next : BitVec 2) (s : State) : State :=
  (s.driveRx n fun x => { x with align := align, jsync := jsync, ready := ready }).setRx n fun x => { x with state := next }

/-- RX.RECEIVE_CGS (R262). -/
def execRxReceiveCgs (n : Nat) (s : State) : Out :=
  withAligned n s fun lk _ w => withCount .rx lk s (.next (rxStep n true false false (nextReceiveCgs s w) s))

/-- RX.ASSERT_SYNC (R262). -/
def execRxAssertSync (n : Nat) (s : State) : Out :=
  withAligned n s fun _ _ w => .next (rxStep n false true false (nextAssertSync s w) s)

/-- RX.RECEIVE_ILAS (R262), on `ic_valid` and `ic_done` (R228). -/
def execRxReceiveIlas (n : Nat) (s : State) : Out :=
  withRx n s fun lk l =>
    withEntry n l.icIdx lk fun e => .next (rxStep n false true false (nextReceiveIlas lk s l (icValid l e)) s)

/-- RX.RECEIVE_DATA (R262). -/
def execRxReceiveData (n : Nat) (s : State) : Out :=
  withAligned n s fun _ _ w => .next (rxStep n false true true (nextReceiveData s w) s)

/-- RX.ILAS_ERR (R268): RECEIVE_ILAS cycles with `ic_valid = 0`, whether or not STRICT_ILAS is set. -/
def execRxIlasErr (n : Nat) (s : State) : Out :=
  withRx n s fun lk l =>
    withEntry n l.icIdx lk fun e =>
      .next (s.setRx n fun x =>
        { x with
          ilasErr :=
            if s.inp.rxRst then 0
            else if l.state = receiveIlas ∧ icValid l e = false then satInc lk l.ilasErr else l.ilasErr })

/-- `rx_state ∈ {RECEIVE_ILAS, RECEIVE_DATA} ∧ next = RECEIVE_CGS` (R268), for the table entry `e` and the aligned word `w`. -/
def rxLosesSync (lk : Link) (s : State) (l : RxLane) (e w : LinkWord) : Bool :=
  (l.state == receiveIlas && nextReceiveIlas lk s l (icValid l e) == receiveCgs)
    || (l.state == receiveData && nextReceiveData s w == receiveCgs)

/-- RX.SYNC_LOSS (R268): a reset not counted. -/
def execRxSyncLoss (n : Nat) (s : State) : Out :=
  withAligned n s fun lk l w =>
    withEntry n l.icIdx lk fun e =>
      .next (s.setRx n fun x =>
        { x with
          syncLoss :=
            if s.inp.rxRst then 0 else if rxLosesSync lk s l e w then satInc lk l.syncLoss else l.syncLoss })

/-- RX.AGG (R270): sampled in `lmfc_zero` cycles only. -/
def execRxAgg (s : State) : Out :=
  withLink s fun lk =>
    withCount .rx lk s
      (.next (s.setAgg
        (if s.inp.rxRst then ⟨false, false⟩
         else if lmfcZero s .rx then ⟨s.cur.rx.all rxJsync, s.cur.rx.all rxReady⟩
         else s.cur.agg)))

end Sys2Proof.Machine
end

