-- ==== Sys2Proof/Machine/Lmfc.lean ====
section
/-! DEFINITION. The LMFC divider (42_lmfc.md R150 to R156), one per engine. Every row drives `lmfc_zero` and `jref_rise`. -/

namespace Sys2Proof.Machine

open Sys2Proof

/-- LMFC.RESET (R152, `rst`). -/
def execLmfcReset (e : Engine) (s : State) : Out :=
  withLmfc e s fun _ _ => .next ((s.driveLmfc e).setLmfc e ⟨0, false⟩)

/-- LMFC.LOAD (R152, `jref_rise`): the counter is reloaded instead of incremented. -/
def execLmfcLoad (e : Engine) (s : State) : Out :=
  withLmfc e s fun lk _ => .next ((s.driveLmfc e).setLmfc e ⟨lk.params.lmfcLoad, s.jref e⟩)

/-- LMFC.COUNT (R152). -/
def execLmfcCount (e : Engine) (s : State) : Out :=
  withLmfc e s fun lk m => .next ((s.driveLmfc e).setLmfc e ⟨(m.count + 1) % lk.c, s.jref e⟩)

end Sys2Proof.Machine
end

