-- ==== Sys2Proof/Machine/Preamble.lean ====
section
/-! DEFINITION. CGS and ILAS generators and checkers (45_cgs_ilas.md R220 to R232). -/

namespace Sys2Proof.Machine

open Sys2Proof

/-- CGS.GEN (R220). -/
def execCgsGen (n : Nat) (s : State) : Out :=
  withTx n s fun lk _ => .next (s.driveTx n fun x => { x with cgsWord := cgsWord lk.opc })

/-- CGS.CHECK (R221). -/
def execCgsCheck (n : Nat) (s : State) : Out :=
  withAligned n s fun _ _ w => .next (s.driveRx n fun x => { x with cgsValid := cgsValid w })

/-- `min(x + 1, LEN − 1)`, the saturating step of the ILAS indices (R224, R228). -/
def nextIndex (lk : Link) (x : Nat) : Nat := min (x + 1) (lk.len - 1)

/-- `ilas_word` and `ilas_done` (R224). -/
def driveIlas (n : Nat) (lk : Link) (l : TxLane) (w : LinkWord) (s : State) : State :=
  s.driveTx n fun x => { x with ilasWord := w, ilasDone := ilasDone lk l }

/-- ILAS.GEN.RESET (R224). -/
def execIlasGenReset (n : Nat) (s : State) : Out :=
  withTx n s fun lk l =>
    withEntry n l.ilasIdx lk fun w => .next ((driveIlas n lk l w s).setTx n fun x => { x with ilasIdx := 0 })

/-- ILAS.GEN.STEP (R224). -/
def execIlasGenStep (n : Nat) (s : State) : Out :=
  withTx n s fun lk l =>
    withEntry n l.ilasIdx lk fun w => .next ((driveIlas n lk l w s).setTx n fun x => { x with ilasIdx := nextIndex lk l.ilasIdx })

/-- `ic_valid` and `ic_done`, for the table entry `w` (R228). -/
def driveCheck (n : Nat) (lk : Link) (l : RxLane) (w : LinkWord) (s : State) : State :=
  s.driveRx n fun x => { x with icValid := icValid l w, icDone := icDone lk l }

/-- What `ic_in` takes at the end of the cycle: 0 on `rst`, else the aligned word, in every state (R228). -/
def nextIcIn (lk : Link) (s : State) (w : LinkWord) : LinkWord := if s.inp.rxRst then List.replicate lk.opc Sym.zero else w

/-- ILAS.CHK.RESET (R228). -/
def execIlasChkReset (n : Nat) (s : State) : Out :=
  withAligned n s fun lk l w =>
    withEntry n l.icIdx lk fun e => .next ((driveCheck n lk l e s).setRx n fun x => { x with icIn := nextIcIn lk s w, icIdx := 0 })

/-- ILAS.CHK.STEP (R228). -/
def execIlasChkStep (n : Nat) (s : State) : Out :=
  withAligned n s fun lk l w =>
    withEntry n l.icIdx lk fun e =>
      .next ((driveCheck n lk l e s).setRx n fun x => { x with icIn := nextIcIn lk s w, icIdx := nextIndex lk l.icIdx })

/-- ILAS.START (R230). -/
def execIlasStart (n : Nat) (s : State) : Out :=
  withAligned n s fun _ _ w => .next (s.driveRx n fun x => { x with startValid := ilasStartValid w })

end Sys2Proof.Machine
end

