-- ==== Sys2Proof/Machine/Scrambler.lean ====
section
/-! DEFINITION. The scrambler and the descrambler (43_scrambler.md R170 to R175). The output is registered: what a step writes is
seen in the next cycle (R174). The descrambler rows drive `rx_out` and `rx_out_valid` from the current registers (R261). -/

namespace Sys2Proof.Machine

open Sys2Proof

/-- SCR.RESET (R172). -/
def execScrReset (n : Nat) (s : State) : Out :=
  withTx n s fun lk _ =>
    .next (s.setTx n fun x => { x with scrState := Config.seed, scrOut := List.replicate lk.opc 0, scrValid := false })

/-- SCR.STEP (R172). -/
def execScrStep (n : Nat) (s : State) : Out :=
  withTx n s fun _ l =>
    .next (s.setTx n fun x =>
      { x with scrOut := (scramble l.scrState (s.txWord n)).1, scrState := (scramble l.scrState (s.txWord n)).2, scrValid := true })

/-- SCR.BYPASS (R172, R173): the state is not updated. -/
def execScrBypass (n : Nat) (s : State) : Out :=
  withTx n s fun _ _ => .next (s.setTx n fun x => { x with scrOut := s.txWord n, scrValid := true })

/-- `rx_out := dscr_out`, `rx_out_valid := dscr_valid` (R261). -/
def driveRxOut (n : Nat) (l : RxLane) (s : State) : State := s.driveRx n fun x => { x with out := l.dscrOut, outValid := l.dscrValid }

/-- DESCR.RESET (R175). -/
def execDescrReset (n : Nat) (s : State) : Out :=
  withRx n s fun lk l =>
    .next ((driveRxOut n l s).setRx n fun x =>
      { x with dscrState := Config.seed, dscrOut := List.replicate lk.opc 0, dscrValid := false })

/-- DESCR.STEP (R175), on the deframer's word (R200). -/
def execDescrStep (n : Nat) (s : State) : Out :=
  withAligned n s fun lk l _ =>
    .next ((driveRxOut n l s).setRx n fun x =>
      { x with
        dscrOut := (descramble l.dscrState (rxDataWord lk s n l)).1
        dscrState := (descramble l.dscrState (rxDataWord lk s n l)).2
        dscrValid := true })

/-- DESCR.BYPASS (R173, R175): the state is not updated. -/
def execDescrBypass (n : Nat) (s : State) : Out :=
  withAligned n s fun lk l _ =>
    .next ((driveRxOut n l s).setRx n fun x => { x with dscrOut := rxDataWord lk s n l, dscrValid := true })

end Sys2Proof.Machine
end

