-- ==== Sys2Proof/Machine/Settings.lean ====
section
/-! DEFINITION. The configuration operations (41_link_settings.md R121 to R134). An error is returned to the caller and leaves all
else as it was (60_exceptions.md R290). -/

namespace Sys2Proof.Machine

open Sys2Proof

/-- CFGOP.set_field (R122). -/
def execCfgSetField (f : Field) (v : Nat) (s : State) : Out :=
  match setField f v s.cfg with
  | .error e => raiseCfg e s
  | .ok c => .next (changeSettings c s)

/-- CFGOP.get_field (R123): no side effect. -/
def execCfgGetField (f : Field) (s : State) : Out := .next { s with reply := .value (getField f s.cfg) }

/-- CFGOP.recompute_checksum (R125). -/
def execCfgRecompute (s : State) : Out :=
  match recompute s.params.mode s.cfg with
  | .error e => raiseCfg e s
  | .ok c => .next (changeSettings c s)

/-- CFGOP.serialize (R127): the octets exactly, a stale FCHK included. -/
def execCfgSerialize (s : State) : Out := .next { s with reply := .octets s.cfg.toList }

/-- CFGOP.deserialize (R128). -/
def execCfgDeserialize (b : List Nat) (s : State) : Out :=
  match deserialize s.params.mode b with
  | .error e => raiseCfg e s
  | .ok c => .next (changeSettings c s)

/-- CFGOP.link_build (R134): a link, and its engines at power-on (log 8). -/
def execCfgLinkBuild (s : State) : Out :=
  match linkBuild s.params s.cfg with
  | .error e => raiseCfg e s
  | .ok lk => .next { instantiate lk s with reply := .built }

/-- CFGOP.RESERVED: numbers 6 and 7 name no operation, and the model faults (30_encoding.md R106). -/
def execCfgReserved (_s : State) : Out := .fault .cfgopReserved

/-! ## Construction, named import and export (R121, R129): compositions of the operations above -/

/-- `set_field` for each given field, in order (R121). -/
def setFields : List (Field × Nat) → Settings → Except CfgError Settings
  | [], c => .ok c
  | (f, v) :: t, c =>
    match setField f v c with
    | .error e => .error e
    | .ok c' => setFields t c'

/-- Construction from explicit values (R121). -/
def construct (m : ChecksumMode) (vs : List (Field × Nat)) : Except CfgError Settings :=
  match setFields vs (Vector.replicate 14 0) with
  | .error e => .error e
  | .ok c => recompute m c

/-- The given fields other than FCHK (R129). -/
def withoutFchk (vs : List (Field × Nat)) : List (Field × Nat) := vs.filter (fun x => x.1 != .FCHK)

/-- Named-field import (R129): a given FCHK must equal the recomputed one. -/
def importNamed (m : ChecksumMode) (vs : List (Field × Nat)) : Except CfgError Settings :=
  match construct m (withoutFchk vs) with
  | .error e => .error e
  | .ok c => if vs.all (fun x => x.1 != .FCHK || x.2 == getField .FCHK c) then .ok c else .error .checksumMismatch

/-- Named-field export (R129): `get_field` of each of the 22 fields. -/
def exportNamed (c : Settings) : List (Field × Nat) := Field.all.map (fun f => (f, getField f c))

end Sys2Proof.Machine
end

