-- ==== Sys2Proof/Machine/Symbols.lean ====
section
/-! DEFINITION. The link symbols (30_encoding.md R91 to R94): a symbol stands in a slot of an RX lane's input word. What a symbol then does
is what the components that read the word do with it: the Aligner and the start checker look for `/R/` (R203, R230), the CGS
checker for `/K/` (R221), the ILAS checker compares every symbol (R228), and the data path clears the flag (R198). -/

namespace Sys2Proof.Machine

open Sys2Proof

/-- A symbol is presented in slot `j` of `rx_in[n]` (10_state.md R39, 20_memory.md R70). -/
def presentSymbol (n j : Nat) (x : Sym) (s : State) : Out :=
  match s.inp.rxIn[n]? with
  | none => .fault (.noSuchLane n)
  | some w =>
    if j < w.length then .next { s with inp := { s.inp with rxIn := s.inp.rxIn.set n (w.set j x) } } else .fault (.noSuchSlot j)

/-- `/R/` (R92). -/
def execSymR (n j : Nat) (s : State) : Out := presentSymbol n j ⟨true, charR⟩ s

/-- `/A/` (R92). -/
def execSymA (n j : Nat) (s : State) : Out := presentSymbol n j ⟨true, charA⟩ s

/-- `/Q/` (R92). -/
def execSymQ (n j : Nat) (s : State) : Out := presentSymbol n j ⟨true, charQ⟩ s

/-- `/K/` (R92). -/
def execSymK (n j : Nat) (s : State) : Out := presentSymbol n j ⟨true, charK⟩ s

/-- `/F/` (R92). -/
def execSymF (n j : Nat) (s : State) : Out := presentSymbol n j ⟨true, charF⟩ s

/-- A data octet, whatever its value (R91, R107). -/
def execSymData (n j : Nat) (d : Octet) (s : State) : Out := presentSymbol n j ⟨false, d⟩ s

/-- A reserved control symbol: it raises nothing, and is none of the five named ones (R94). -/
def execSymReserved (n j : Nat) (d : Octet) (s : State) : Out := presentSymbol n j ⟨true, d⟩ s

end Sys2Proof.Machine
end

