-- ==== Sys2Proof/Machine/Dispatch.lean ====
section
/-! DEFINITION. One arm per operation (spec/opcode_table.json, 30_encoding.md R103). -/

namespace Sys2Proof.Machine

open Sys2Proof

def exec (i : Instr) (s : State) : Host.Outcome State Fault Refusal :=
  match i with
  | .symR n j => Sys2Proof.Machine.execSymR n j s
  | .symA n j => Sys2Proof.Machine.execSymA n j s
  | .symQ n j => Sys2Proof.Machine.execSymQ n j s
  | .symK n j => Sys2Proof.Machine.execSymK n j s
  | .symF n j => Sys2Proof.Machine.execSymF n j s
  | .symData n j d => Sys2Proof.Machine.execSymData n j d s
  | .symReserved n j d => Sys2Proof.Machine.execSymReserved n j d s
  | .txSendCgs n => Sys2Proof.Machine.execTxSendCgs n s
  | .txSendIlas n => Sys2Proof.Machine.execTxSendIlas n s
  | .txSendData n => Sys2Proof.Machine.execTxSendData n s
  | .txIllegal n => Sys2Proof.Machine.execTxIllegal n s
  | .rxReceiveCgs n => Sys2Proof.Machine.execRxReceiveCgs n s
  | .rxAssertSync n => Sys2Proof.Machine.execRxAssertSync n s
  | .rxReceiveIlas n => Sys2Proof.Machine.execRxReceiveIlas n s
  | .rxReceiveData n => Sys2Proof.Machine.execRxReceiveData n s
  | .lmfcReset e _ => Sys2Proof.Machine.execLmfcReset e s
  | .lmfcLoad e => Sys2Proof.Machine.execLmfcLoad e s
  | .lmfcCount e => Sys2Proof.Machine.execLmfcCount e s
  | .scrReset n _ => Sys2Proof.Machine.execScrReset n s
  | .scrStep n => Sys2Proof.Machine.execScrStep n s
  | .scrBypass n => Sys2Proof.Machine.execScrBypass n s
  | .descrReset n _ => Sys2Proof.Machine.execDescrReset n s
  | .descrStep n => Sys2Proof.Machine.execDescrStep n s
  | .descrBypass n => Sys2Proof.Machine.execDescrBypass n s
  | .framerReset n => Sys2Proof.Machine.execFramerReset n s
  | .framerStep n => Sys2Proof.Machine.execFramerStep n s
  | .alignInsA n j _ _ => Sys2Proof.Machine.execAlignInsA n j s
  | .alignInsF n j _ => Sys2Proof.Machine.execAlignInsF n j s
  | .alignInsPass n j _ => Sys2Proof.Machine.execAlignInsPass n j s
  | .alignReplClear n => Sys2Proof.Machine.execAlignReplClear n s
  | .deframerPass n => Sys2Proof.Machine.execDeframerPass n s
  | .alignerReset n _ => Sys2Proof.Machine.execAlignerReset n s
  | .alignerLatch n => Sys2Proof.Machine.execAlignerLatch n s
  | .alignerHold n => Sys2Proof.Machine.execAlignerHold n s
  | .cgsGen n => Sys2Proof.Machine.execCgsGen n s
  | .cgsCheck n => Sys2Proof.Machine.execCgsCheck n s
  | .ilasGenReset n => Sys2Proof.Machine.execIlasGenReset n s
  | .ilasGenStep n => Sys2Proof.Machine.execIlasGenStep n s
  | .ilasChkReset n => Sys2Proof.Machine.execIlasChkReset n s
  | .ilasChkStep n => Sys2Proof.Machine.execIlasChkStep n s
  | .ilasStart n => Sys2Proof.Machine.execIlasStart n s
  | .txDesync n => Sys2Proof.Machine.execTxDesync n s
  | .txSyncLoss n => Sys2Proof.Machine.execTxSyncLoss n s
  | .txAgg => Sys2Proof.Machine.execTxAgg s
  | .rxIlasErr n => Sys2Proof.Machine.execRxIlasErr n s
  | .rxSyncLoss n => Sys2Proof.Machine.execRxSyncLoss n s
  | .rxAgg => Sys2Proof.Machine.execRxAgg s
  | .cfgSetField f v => Sys2Proof.Machine.execCfgSetField f v s
  | .cfgGetField f => Sys2Proof.Machine.execCfgGetField f s
  | .cfgRecompute => Sys2Proof.Machine.execCfgRecompute s
  | .cfgSerialize => Sys2Proof.Machine.execCfgSerialize s
  | .cfgDeserialize b => Sys2Proof.Machine.execCfgDeserialize b s
  | .cfgLinkBuild => Sys2Proof.Machine.execCfgLinkBuild s
  | .cfgReserved _ => Sys2Proof.Machine.execCfgReserved s

end Sys2Proof.Machine
end

