-- ==== Sys2Proof/Machine/Cycle.lean ====
section
/-! DEFINITION. One protocol-clock cycle (00_scope.md R12, 70_reset_and_hazards.md R341): every component of every lane runs the one
operation its select bits name (30_encoding.md R103), each reading the registers of the current cycle and the inputs, and all
register writes take effect together at the clock edge. -/

namespace Sys2Proof.Machine

open Sys2Proof

/-- A component instance of the engines: its select port, its lane (on the LMFC port: the engine's number) and, for the
AlignInserter, its slot. -/
structure Instance where
  port : Port
  lane : Nat
  slot : Nat
deriving DecidableEq, Repr

/-- The components of TX lane `n` (46_link_fsm.md R250), one AlignInserter instance per slot. -/
def txInstances (opc n : Nat) : List Instance :=
  [⟨.txDesync, n, 0⟩, ⟨.framer, n, 0⟩, ⟨.scr, n, 0⟩, ⟨.cgsGen, n, 0⟩, ⟨.ilasGen, n, 0⟩]
    ++ (List.range opc).map (fun j => ⟨.alignIns, n, j⟩)
    ++ [⟨.txFsm, n, 0⟩, ⟨.txSyncLoss, n, 0⟩]

/-- The components of RX lane `n` (46_link_fsm.md R261). -/
def rxInstances (n : Nat) : List Instance :=
  [⟨.aligner, n, 0⟩, ⟨.cgsCheck, n, 0⟩, ⟨.ilasStart, n, 0⟩, ⟨.ilasChk, n, 0⟩, ⟨.alignRepl, n, 0⟩, ⟨.deframer, n, 0⟩,
   ⟨.descr, n, 0⟩, ⟨.rxFsm, n, 0⟩, ⟨.rxIlasErr, n, 0⟩, ⟨.rxSyncLoss, n, 0⟩]

/-- Every component instance of both engines (00_scope.md R2, R9). -/
def cycleInstances (opc lanes : Nat) : List Instance :=
  [⟨.lmfc, 0, 0⟩] ++ (List.range lanes).flatMap (txInstances opc) ++ [⟨.txAgg, 0, 0⟩]
    ++ [⟨.lmfc, 1, 0⟩] ++ (List.range lanes).flatMap rxInstances ++ [⟨.rxAgg, 0, 0⟩]

/-- A select word of two bits. -/
def bits2 (b1 b0 : Bool) : Nat := 2 * bit b1 + bit b0

/-- The LMFC divider's select bits `{rst, jref_rise}`. -/
def lmfcSel (s : State) (e : Engine) : Nat := bits2 (s.rst e) (jrefRise s e)

/-- The AlignInserter's select bits `{last_mf[j], last_f[j], octet = A, octet = F}` for slot `j` (R103). -/
def slotSel (lk : Link) (l : TxLane) (j : Nat) : Nat :=
  let d := l.scrOut.getD j 0
  8 * bit (lastMf lk l j) + 4 * bit (lastF lk j) + 2 * bit (d == charA) + bit (d == charF)

/-- The select word of a TX lane's component (R103). -/
def txSel (lk : Link) (s : State) (l : TxLane) (i : Instance) : Nat :=
  match i.port with
  | .txFsm => l.state.toNat
  | .scr => bits2 (scrRst s l) lk.scr
  | .framer => bit (scrRst s l)
  | .ilasGen => bit (ilasRst s l)
  | .alignIns => slotSel lk l i.slot
  | _ => 0

/-- The select word of an RX lane's component (R103). -/
def rxSel (lk : Link) (s : State) (l : RxLane) (i : Instance) : Nat :=
  match i.port with
  | .rxFsm => l.state.toNat
  | .descr => bits2 (dscrRst s l) lk.scr
  | .ilasChk => bit (icRst s l)
  | .aligner => bits2 s.inp.rxRst (rFound (s.rxWord i.lane))
  | _ => 0

/-- Run the operation a select word names on an instance. -/
def runSel (p : Port) (sel lane slot : Nat) (s : State) : Out :=
  match decodeSel p sel lane slot with
  | .error e => .refused (.undecodable e)
  | .ok i => exec i s

/-- One component of the running engines: its select bits, from the registers and inputs of the cycle, name the operation. -/
def runInstance (i : Instance) (s : State) : Out :=
  withLink s fun lk =>
    match i.port with
    | .lmfc => runSel .lmfc (lmfcSel s (if i.lane = 0 then .tx else .rx)) i.lane 0 s
    | .txAgg => runSel .txAgg 0 0 0 s
    | .rxAgg => runSel .rxAgg 0 0 0 s
    | .txDesync | .framer | .scr | .cgsGen | .ilasGen | .alignIns | .txFsm | .txSyncLoss =>
      withTxLane i.lane s fun _ l => runSel i.port (txSel lk s l i) i.lane i.slot s
    | _ => withRxLane i.lane s fun _ l => runSel i.port (rxSel lk s l i) i.lane i.slot s

/-- All of them, in order. The order does not matter (R341). -/
def runInstances : List Instance → State → Out
  | [], s => .next s
  | i :: t, s => andThen (runInstance i s) (runInstances t)

/-- The symbols of the RX words of a cycle of stimulus: lane, slot, 9-bit code. -/
def stimulusSymbols (inp : CycleInputs) : List (Nat × Nat × BitVec 9) :=
  inp.rxIn.zipIdx.flatMap (fun x => x.1.zipIdx.map (fun y => (x.2, y.2, y.1)))

/-- The symbols are presented, each by the operation its code names (R91). -/
def runSymbols : List (Nat × Nat × BitVec 9) → State → Out
  | [], s => .next s
  | (n, j, c) :: t, s => andThen (runSel .sym c.toNat n j s) (runSymbols t)

/-- The other inputs of a cycle of stimulus (R39); `rx_in` has its shape and takes its symbols by `runSymbols`. -/
def applyInputs (inp : CycleInputs) (s : State) : State :=
  { s with
    inp :=
      { txRst := inp.txRst, txResync := inp.txResync, txJref := inp.txJref, jsync := inp.jsync, txIn := inp.txIn,
        rxRst := inp.rxRst, rxResync := inp.rxResync, rxJref := inp.rxJref,
        rxIn := inp.rxIn.map (fun w => w.map (fun _ => Sym.zero)) } }

/-- Each lane has one word of OPC slots per direction (20_memory.md R77). -/
def fits (opc lanes : Nat) (inp : CycleInputs) : Bool :=
  inp.txIn.length == lanes && inp.rxIn.length == lanes && inp.txIn.all (fun w => w.length == opc)
    && inp.rxIn.all (fun w => w.length == opc)

/-- One cycle of the engines under a cycle of stimulus. -/
def runCycle (inp : CycleInputs) (s : State) : Out :=
  withLink s fun lk =>
    if fits lk.opc lk.lanes inp then
      andThen (runSymbols (stimulusSymbols inp) (applyInputs inp s)) fun t =>
        andThen (runInstances (cycleInstances lk.opc lk.lanes) t) fun u => .next (clockEdge u)
    else .refused .badStimulus

/-- One operation presented by itself on a select port: a cycle in which only this component is clocked, every other register
having no `<-` (R12; log 26). DESIGN CHOICE (log 29): R39 presents inputs per cycle only, and a record brings none; its operation reads
the inputs the State holds, those of the last cycle of stimulus, `rst`, `resync` and `jref` too. -/
def runRecord (p : Port) (b : List Octet) (s : State) : Out :=
  match decode p b with
  | .error e => .refused (.undecodable e)
  | .ok i => andThen (exec i s) fun t => .next (clockEdge t)

/-- The next item of the program is presented (30_encoding.md R105; log 1). -/
def present (s : State) : Out :=
  match s.program with
  | [] => .refused .programEnd
  | .op p b :: rest => runRecord p b { s with program := rest }
  | .cycle inp :: rest => runCycle inp { s with program := rest }

/-! ## Wiring (46_link_fsm.md R271): what the environment puts between TX and RX -/

/-- `tx_out[n]` of the current cycle (R251); `none` is a state or an index the rules do not reach. -/
def txOut (lk : Link) (n : Nat) (l : TxLane) : Option LinkWord :=
  if l.state = sendCgs then some (cgsWord lk.opc)
  else if l.state = sendIlas then memReadIlas lk n l.ilasIdx
  else if l.state = sendData then some (insertedWord lk l)
  else none

/-- The 9-bit code of a symbol (R90). -/
def codeOf (x : Sym) : BitVec 9 := BitVec.ofNat 9 (symCode x)

/-- The words on the wires of a direct loop with zero delay: each lane's `tx_out` of this cycle. -/
def loopWords (lk : Link) (s : State) : List (List (BitVec 9)) :=
  s.cur.tx.zipIdx.map (fun x => ((txOut lk x.2 x.1).getD []).map codeOf)

/-- One cycle of a direct loop: `rx_in = tx_out` and `jsync = rx_jsync_agg` (R271), no `rst`, `resync` or `jref`. -/
def loopInputs (lk : Link) (s : State) (txIn : List DataWord) : CycleInputs :=
  { txRst := false, txResync := false, txJref := false, jsync := s.cur.agg.jsync, txIn := txIn, rxRst := false,
    rxResync := false, rxJref := false, rxIn := loopWords lk s }

/-! ## The host's entry -/

/-- Whether a port belongs to the running engines, whose operations need a built link (R136). -/
def enginePort : Port → Bool
  | .sym => false
  | .cfgop => false
  | _ => true

/-- CFG-A of 95_test_vectors.md section 2, the spec's worked configuration. -/
def exampleCfg : Settings := #v[0x5A, 0x03, 0x00, 0x80, 0x02, 0x09, 0x00, 0x0F, 0x2F, 0x20, 0x00, 0x00, 0x00, 0x46]

/-- DESIGN CHOICE (log 24): a record of an engine's port, placed where no link is built, takes the spec's worked configuration
with it, because an engine runs on a built link only. -/
def withLinkFor (p : Port) (s : State) : State :=
  if enginePort p then
    match s.link with
    | some _ => s
    | none =>
      match linkBuild s.params exampleCfg with
      | .ok lk => instantiate lk { s with cfg := exampleCfg }
      | .error _ => s
  else s

/-- A table word's record at the head of the program. -/
def placeWord (s : State) (nbits w : Nat) : State :=
  { withLinkFor (tablePort nbits w) s with program := .op (tablePort nbits w) (tableBytes nbits w) :: s.program }

end Sys2Proof.Machine
end

