-- ==== Sys2Proof/Machine/Step.lean ====
section
/-! DEFINITION. One step: the environment presents the next item of the program. An operation record is decoded and run; a cycle of
stimulus is one protocol-clock cycle of both engines (70_reset_and_hazards.md R330, step 4). -/

namespace Sys2Proof.Machine

/-- The step. -/
def step (s : State) : Host.Outcome State Fault Refusal := present s

/-- The state with a table word placed where `step` takes its next operation (log 3, log 24). -/
def State.withFetchWord (s : State) (nbits w : Nat) : State := placeWord s nbits w

end Sys2Proof.Machine
end

