-- ==== Sys2Proof/Safety.lean ====
section
/-! DEFINITION. The terms the statements use: registers in range, the machine's invariant, what an operation may change (its frame),
and one cycle written as a pure function of the registers and inputs (00_scope.md R12, 20_memory.md R81). -/

namespace Sys2Proof.Machine

open Sys2Proof

/-! ## Ranges (10_state.md R33 to R36) and the invariant -/

/-- A TX lane's registers are in the ranges of R34. -/
def TxLane.ok (lk : Link) (l : TxLane) : Prop :=
  l.state ≠ 3 ∧ l.ilasIdx < lk.len ∧ l.scrOut.length = lk.opc ∧ l.frCnt < lk.c ∧ l.desyncCnt ≤ lk.params.nDesync
    ∧ l.syncLoss < 2 ^ lk.params.cntWidth

/-- An RX lane's registers are in the ranges of R35. -/
def RxLane.ok (lk : Link) (l : RxLane) : Prop :=
  l.alPrev.length = lk.opc ∧ l.alOff < lk.opc ∧ l.icIn.length = lk.opc ∧ l.icIdx < lk.len ∧ l.dscrOut.length = lk.opc
    ∧ l.ilasErr < 2 ^ lk.params.cntWidth ∧ l.syncLoss < 2 ^ lk.params.cntWidth

/-- All registers are in range, one instance per lane (R33 to R36, 00_scope.md R9). -/
def Regs.ok (lk : Link) (r : Regs) : Prop :=
  r.txLmfc.count < lk.c ∧ r.rxLmfc.count < lk.c ∧ r.tx.length = lk.lanes ∧ r.rx.length = lk.lanes
    ∧ (∀ l ∈ r.tx, TxLane.ok lk l) ∧ (∀ l ∈ r.rx, RxLane.ok lk l)

/-- Each input port holds one word of OPC slots per lane (20_memory.md R77). -/
def Inputs.ok (lk : Link) (i : Inputs) : Prop :=
  i.txIn.length = lk.lanes ∧ i.rxIn.length = lk.lanes ∧ (∀ w ∈ i.txIn, w.length = lk.opc) ∧ (∀ w ∈ i.rxIn, w.length = lk.opc)

/-- The signals have one entry per lane, and the AlignInserter one flag per slot. -/
def Sig.ok (lk : Link) (g : Sig) : Prop :=
  g.tx.length = lk.lanes ∧ g.rx.length = lk.lanes ∧ ∀ x ∈ g.tx, x.insCtrl.length = lk.opc

/-- A built link is the one `link_build` gives for the current parameters and settings (R80, R136), and on it registers, ports and
signals are in range. -/
def Consistent (s : State) : Prop :=
  ∀ lk, s.link = some lk → linkBuild s.params s.cfg = .ok lk ∧ s.cur.ok lk ∧ s.nxt.ok lk ∧ s.inp.ok lk ∧ s.sig.ok lk

/-- Between cycles no register write is pending (R12). -/
def Settled (s : State) : Prop := s.nxt = s.cur

/-- The invariant of the machine between steps. -/
def Inv (s : State) : Prop := Consistent s ∧ Settled s

/-- The machine stops with a fault. -/
def Faults (o : Out) : Prop := ∃ r, o = .fault r

/-! ## Frames -/

/-- `t` is `s` but for registers and signals of TX lane `n`. -/
def OnlyTx (n : Nat) (s t : State) : Prop :=
  t = { s with nxt := { s.nxt with tx := t.nxt.tx }, sig := { s.sig with tx := t.sig.tx } }
    ∧ ∀ m, m ≠ n → t.nxt.tx[m]? = s.nxt.tx[m]? ∧ t.sig.tx[m]? = s.sig.tx[m]?

/-- `t` is `s` but for registers and signals of RX lane `n`. -/
def OnlyRx (n : Nat) (s t : State) : Prop :=
  t = { s with nxt := { s.nxt with rx := t.nxt.rx }, sig := { s.sig with rx := t.sig.rx } }
    ∧ ∀ m, m ≠ n → t.nxt.rx[m]? = s.nxt.rx[m]? ∧ t.sig.rx[m]? = s.sig.rx[m]?

/-- The outcome `o` is a next state; of all state it changes TX lane `n`'s registers by `f`, at the end of the cycle, and that lane's
signals by `g`, and nothing else. -/
def TxRuns (o : Out) (n : Nat) (s : State) (f : TxLane → TxLane) (g : TxSig → TxSig) : Prop :=
  ∃ t, o = .next t ∧ OnlyTx n s t ∧ t.nxt.tx[n]? = (s.nxt.tx[n]?).map f ∧ t.sig.tx[n]? = (s.sig.tx[n]?).map g

/-- The outcome `o` is a next state; of all state it changes RX lane `n`'s registers by `f`, at the end of the cycle, and that lane's
signals by `g`, and nothing else. -/
def RxRuns (o : Out) (n : Nat) (s : State) (f : RxLane → RxLane) (g : RxSig → RxSig) : Prop :=
  ∃ t, o = .next t ∧ OnlyRx n s t ∧ t.nxt.rx[n]? = (s.nxt.rx[n]?).map f ∧ t.sig.rx[n]? = (s.sig.rx[n]?).map g

/-- The outcome `o` is a next state; of all state it changes an engine's LMFC registers to `v`, at the end of the cycle, drives that
engine's `lmfc_zero` and `jref_rise`, and nothing else. -/
def LmfcRuns (o : Out) (e : Engine) (s : State) (v : Lmfc) (zero rise : Bool) : Prop :=
  match e with
  | .tx => o = .next { s with nxt := { s.nxt with txLmfc := v }, sig := { s.sig with txLmfcZero := zero, txJrefRise := rise } }
  | .rx => o = .next { s with nxt := { s.nxt with rxLmfc := v }, sig := { s.sig with rxLmfcZero := zero, rxJrefRise := rise } }

/-! ## A lane in a state -/

/-- A link is built, TX lane `n` holds `l`, and its state code is one of the three states (10_state.md R37). -/
def TxAt (s : State) (lk : Link) (n : Nat) (l : TxLane) : Prop := s.link = some lk ∧ s.cur.tx[n]? = some l ∧ l.state ≠ 3

/-- A link is built, RX lane `n` holds `l`, and its offset is legal (10_state.md R35). -/
def RxAt (s : State) (lk : Link) (n : Nat) (l : RxLane) : Prop :=
  s.link = some lk ∧ s.cur.rx[n]? = some l ∧ l.alOff < lk.opc

/-! ## One cycle as a pure function -/

/-- The input ports in a cycle of stimulus: each 9-bit code is the symbol `{c, d}` (30_encoding.md R90). -/
def portsOf (inp : CycleInputs) : Inputs :=
  { txRst := inp.txRst, txResync := inp.txResync, txJref := inp.txJref, jsync := inp.jsync, txIn := inp.txIn,
    rxRst := inp.rxRst, rxResync := inp.rxResync, rxJref := inp.rxJref,
    rxIn := inp.rxIn.map (fun w => w.map (fun c => ⟨c.getLsbD 8, c.setWidth 8⟩)) }

/-- The state in which a cycle's components read: the current registers and the cycle's inputs. -/
def seen (inp : CycleInputs) (s : State) : State := { s with inp := portsOf inp }

/-- An LMFC divider's registers after a cycle (42_lmfc.md R152). -/
def lmfcAfter (lk : Link) (s : State) (e : Engine) : Lmfc :=
  if s.rst e then ⟨0, false⟩
  else if jrefRise s e then ⟨lk.params.lmfcLoad, s.jref e⟩
  else ⟨((s.lmfc e).count + 1) % lk.c, s.jref e⟩

/-- A TX lane's next state code (46_link_fsm.md R252). -/
def txStateAfter (lk : Link) (s : State) (l : TxLane) : BitVec 2 :=
  if s.inp.txRst || s.inp.txResync then 0
  else if l.state = 0 then (if s.inp.jsync && lmfcZero s .tx then 1 else 0)
  else if l.state = 1 then (if l.ilasIdx + 1 = lk.len then 2 else 1)
  else (if desync lk s l then 0 else 2)

/-- A TX lane's registers after a cycle (R172, R191, R224, R252, R253, R254, R258). -/
def txAfter (lk : Link) (s : State) (n : Nat) (l : TxLane) : TxLane :=
  let held := s.inp.txRst || l.state == 0 || l.state == 1
  { state := txStateAfter lk s l
    ilasIdx := if s.inp.txRst || l.state == 0 then 0 else min (l.ilasIdx + 1) (lk.len - 1)
    scrState := if held then Config.seed else if lk.scr then (scramble l.scrState (s.txWord n)).2 else l.scrState
    scrOut :=
      if held then List.replicate lk.opc 0 else if lk.scr then (scramble l.scrState (s.txWord n)).1 else s.txWord n
    scrValid := !held
    frCnt := if held then 0 else if l.frCnt + 1 = lk.c then 0 else l.frCnt + 1
    desyncCnt := if s.inp.txRst || s.inp.jsync then 0 else min (l.desyncCnt + 1) lk.params.nDesync
    syncLoss :=
      if s.inp.txRst then 0
      else if l.state = 2 ∧ txStateAfter lk s l = 0 then min (l.syncLoss + 1) (2 ^ lk.params.cntWidth - 1)
      else l.syncLoss }

/-- The ILAS checker's comparison in a cycle (45_cgs_ilas.md R228). -/
def icMatches (lk : Link) (n : Nat) (l : RxLane) : Bool := memReadIlas lk n l.icIdx == some l.icIn

/-- An RX lane's next state code (46_link_fsm.md R262). -/
def rxStateAfter (lk : Link) (s : State) (n : Nat) (l : RxLane) : BitVec 2 :=
  let w := alignedWord lk s n l
  if s.inp.rxRst || s.inp.rxResync then 0
  else if l.state = 0 then (if lmfcZero s .rx && cgsValid w then 1 else 0)
  else if l.state = 1 then (if ilasStartValid w then 2 else 1)
  else if l.state = 2 then
    (if lk.params.strictIlas && !icMatches lk n l then 0 else if l.icIdx + 1 = lk.len then 3 else 2)
  else (if cgsValid w then 0 else 3)

/-- An RX lane's registers after a cycle (R175, R203, R228, R262, R266, R268). -/
def rxAfter (lk : Link) (s : State) (n : Nat) (l : RxLane) : RxLane :=
  let w := alignedWord lk s n l
  let held := s.inp.rxRst || l.state != 3
  let zeros := List.replicate lk.opc Sym.zero
  { state := rxStateAfter lk s n l
    alPrev := if s.inp.rxRst then zeros else s.rxWord n
    alOff := if s.inp.rxRst then 0 else (lowestR 0 (s.rxWord n)).getD l.alOff
    icIn := if s.inp.rxRst then zeros else w
    icIdx := if s.inp.rxRst || l.state != 2 then 0 else min (l.icIdx + 1) (lk.len - 1)
    dscrState := if held then Config.seed else if lk.scr then (descramble l.dscrState w.data).2 else l.dscrState
    dscrOut := if held then List.replicate lk.opc 0 else if lk.scr then (descramble l.dscrState w.data).1 else w.data
    dscrValid := !held
    ilasErr :=
      if s.inp.rxRst then 0
      else if l.state = 2 ∧ icMatches lk n l = false then min (l.ilasErr + 1) (2 ^ lk.params.cntWidth - 1)
      else l.ilasErr
    syncLoss :=
      if s.inp.rxRst then 0
      else if (l.state = 2 ∨ l.state = 3) ∧ rxStateAfter lk s n l = 0 then min (l.syncLoss + 1) (2 ^ lk.params.cntWidth - 1)
      else l.syncLoss }

/-- The aggregate registers after a cycle (46_link_fsm.md R270). -/
def aggAfter (s : State) : RxAgg :=
  if s.inp.rxRst then ⟨false, false⟩
  else if lmfcZero s .rx then ⟨s.cur.rx.all (fun l => l.state != 0), s.cur.rx.all (fun l => l.state == 3)⟩
  else s.cur.agg

/-- Every register after a cycle. -/
def regsAfter (lk : Link) (s : State) : Regs :=
  { txLmfc := lmfcAfter lk s .tx
    rxLmfc := lmfcAfter lk s .rx
    tx := s.cur.tx.mapIdx (txAfter lk s)
    rx := s.cur.rx.mapIdx (rxAfter lk s)
    agg := aggAfter s }

/-- A TX lane's outputs and signals in a cycle (R190, R192, R196, R220, R224, R251, R254, R255). -/
def txSigIn (lk : Link) (s : State) (n : Nat) (l : TxLane) : TxSig :=
  let entry := (memReadIlas lk n l.ilasIdx).getD []
  { out := if l.state = 0 then cgsWord lk.opc else if l.state = 1 then entry else insertedWord lk l
    ready := decide (l.state = 2)
    cgsWord := cgsWord lk.opc
    ilasWord := entry
    ilasDone := decide (l.ilasIdx + 1 = lk.len)
    desync := !s.inp.jsync && decide (lk.params.nDesync ≤ l.desyncCnt + 1)
    lastF := (List.range lk.opc).map (fun j => decide ((j + 1) % lk.f = 0))
    lastMf := (List.range lk.opc).map (fun j => decide (l.frCnt + 1 = lk.c ∧ j + 1 = lk.opc))
    insCtrl := (insertedWord lk l).map Sym.ctrl }

/-- An RX lane's outputs and signals in a cycle (R198, R199, R203, R221, R228, R230, R261, R263 to R265). -/
def rxSigIn (lk : Link) (s : State) (n : Nat) (l : RxLane) : RxSig :=
  let w := alignedWord lk s n l
  { aligned := w
    cgsValid := cgsValid w
    startValid := ilasStartValid w
    icValid := icMatches lk n l
    icDone := decide (l.icIdx + 1 = lk.len)
    replaced := w.map (fun x => ⟨false, x.octet⟩)
    deframed := w.data
    out := l.dscrOut
    outValid := l.dscrValid
    align := decide (l.state = 0)
    jsync := decide (l.state ≠ 0)
    ready := decide (l.state = 3) }

/-- Every output and signal in a cycle (10_state.md R38, R40): a function of the registers of its start and its inputs. -/
def sigIn (lk : Link) (s : State) : Sig :=
  { txLmfcZero := lmfcZero s .tx
    txJrefRise := jrefRise s .tx
    rxLmfcZero := lmfcZero s .rx
    rxJrefRise := jrefRise s .rx
    txReady := s.cur.tx.all (fun l => l.state == 2)
    tx := s.cur.tx.mapIdx (txSigIn lk s)
    rx := s.cur.rx.mapIdx (rxSigIn lk s) }

end Sys2Proof.Machine
end

