-- ==== Sys2Proof/Certificates/Slice0/Obligations.lean ====
section
/-! DEFINITION. The statements for the provers. A lane operation's statement says that it completes (`TxRuns`, `RxRuns`, `LmfcRuns` of
Safety.lean), which registers and signals of its lane it changes and to what, and with that its frame: all else is unchanged. -/

open Sys2Proof Sys2Proof.Machine

/-! ## Encoding -/

/-- The seven symbol operations put the symbol their rows name (R91, R92) in their slot of `rx_in[n]` and change nothing else. The
choice of `rx_in` as the place is the model's (log 11). -/
def Obligations.SymbolOperationsPresentTheirSymbol : Prop :=
  ∀ (s : State) (n j : Nat) (w : LinkWord) (d : Octet), s.inp.rxIn[n]? = some w → j < w.length →
    let put := fun (x : Sym) => Host.Outcome.next (φ := Fault) (ρ := Refusal)
      ({ s with inp := { s.inp with rxIn := s.inp.rxIn.set n (w.set j x) } } : State)
    exec (.symR n j) s = put ⟨true, 0x1C⟩ ∧ exec (.symA n j) s = put ⟨true, 0x7C⟩ ∧ exec (.symQ n j) s = put ⟨true, 0x9C⟩
      ∧ exec (.symK n j) s = put ⟨true, 0xBC⟩ ∧ exec (.symF n j) s = put ⟨true, 0xFC⟩
      ∧ exec (.symData n j d) s = put ⟨false, d⟩ ∧ exec (.symReserved n j d) s = put ⟨true, d⟩

/-- R91: the flag decides. A slot with flag 0 is a data octet whatever its value; with flag 1 its octet names the control character. -/
def Obligations.FlagDecidesTheSymbol : Prop :=
  ∀ (d : Octet) (n j : Nat),
    decodeSel .sym d.toNat n j = .ok (.symData n j d)
      ∧ decodeSel .sym (256 + d.toNat) n j =
          .ok (if d = 0x1C then .symR n j else if d = 0x7C then .symA n j else if d = 0x9C then .symQ n j
            else if d = 0xBC then .symK n j else if d = 0xFC then .symF n j else .symReserved n j d)

/-- R94, R230: a reserved control symbol in a received word makes `cgs_valid` and `ilas_start_valid` 0, is no `/R/` for the aligner,
mismatches any table entry that does not hold it, and passes the AlignReplacer as its data octet; and in no cycle of a built link does
`tx_out` carry one. -/
def Obligations.ReservedSymbolsHaveNoMeaning : Prop :=
  (∀ (w e : LinkWord) (d : Octet) (l : RxLane), namedControl d = false → (⟨true, d⟩ : Sym) ∈ w →
      cgsValid w = false ∧ ilasStartValid w = false ∧ isR ⟨true, d⟩ = false
        ∧ (l.icIn = w → (⟨true, d⟩ : Sym) ∉ e → icValid l e = false) ∧ (⟨false, d⟩ : Sym) ∈ replaceFlags w)
    ∧ ∀ (s t : State) (lk : Link) (inp : CycleInputs) (rest : List Item) (x : TxSig) (y : Sym), Inv s → s.link = some lk →
        s.program = .cycle inp :: rest → step s = .next t → x ∈ t.sig.tx → y ∈ x.out → y.ctrl = true → namedControl y.octet = true

/-- The select words written out from the spec's table (one or more per port) name their rows' operations. -/
def Obligations.TableWordsDecode : Prop :=
  decode .sym [0x1C, 0x01, 0, 0, 0] = .ok (.symR 0 0) ∧ decode .sym [0x7C, 0x00, 0, 3, 0] = .ok (.symData 0 3 0x7C)
    ∧ decode .sym [0x7C, 0x01, 1, 2, 0] = .ok (.symA 1 2) ∧ decode .sym [0x50, 0x01, 0, 0, 0] = .ok (.symReserved 0 0 0x50)
    ∧ decode .txFsm [2, 0] = .ok (.txSendData 0) ∧ decode .rxFsm [2, 1] = .ok (.rxReceiveIlas 1)
    ∧ decode .lmfc [1, 0] = .ok (.lmfcLoad .tx) ∧ decode .scr [3, 0] = .ok (.scrReset 0 true)
    ∧ decode .alignIns [0xE, 0, 3, 0] = .ok (.alignInsA 0 3 true false) ∧ decode .alignIns [0xD, 0, 3, 0] = .ok (.alignInsPass 0 3 13)
    ∧ decode .alignIns [5, 0, 1, 0] = .ok (.alignInsF 0 1 false) ∧ decode .aligner [1, 0] = .ok (.alignerLatch 0)
    ∧ decode .cfgop [0, 6, 2, 0, 0, 0] = .ok (.cfgSetField .L 2) ∧ decode .cfgop [7] = .ok (.cfgReserved true)

/-- R103: on every port of the running engines, every value of the select bits names an operation of that port, and no wider word does. -/
def Obligations.SelectBitsAreTotal : Prop :=
  ∀ (p : Port) (sel lane slot : Nat), p ≠ .cfgop → (p = .lmfc → lane < 2) →
    let bits := match p with
      | .sym => 9
      | .txFsm | .rxFsm | .lmfc | .scr | .descr | .aligner => 2
      | .framer | .ilasGen | .ilasChk => 1
      | .alignIns => 4
      | _ => 0
    (sel < 2 ^ bits → ∃ i, decodeSel p sel lane slot = .ok i ∧ i.port = p)
      ∧ (2 ^ bits ≤ sel → decodeSel p sel lane slot = .error .reservedBits)

/-- Decoding an encoded well-formed operation gives it back, for every operation and operand. -/
def Obligations.DecodeOfEncode : Prop := ∀ i : Instr, i.wf = true → decode i.port (encode i) = .ok i

/-- The other direction: a record that decodes is the encoding of a well-formed operation of that port, followed by zero bytes. So no
bit of a record is dropped. The select words are the table's; the operand bytes and the zero padding are the model's layout (log 2). -/
def Obligations.DecodedRecordsAreEncodings : Prop :=
  ∀ (p : Port) (b : List Octet) (i : Instr), decode p b = .ok i →
    i.wf = true ∧ i.port = p ∧ ∃ k, b = encode i ++ List.replicate k 0

/-! ## The step -/

/-- A record whose bytes decode to `i` is run by `exec i`, and then every write takes effect together. That a record is a step of its
own is the model's choice (log 1, log 26); that writes take effect together is R12. -/
def Obligations.StepRunsTheDecodedRecord : Prop :=
  ∀ (s : State) (p : Port) (b : List Octet) (rest : List Item) (i : Instr), s.program = .op p b :: rest → decode p b = .ok i →
    (∀ t, exec i { s with program := rest } = .next t → step s = .next { t with cur := t.nxt })
      ∧ (∀ r, exec i { s with program := rest } = .fault r → step s = .fault r)
      ∧ (∀ r, exec i { s with program := rest } = .refused r → step s = .refused r)

/-! ## Settings codec -/

/-- R122: `set_field` stores a value that fits in the field's bits and in no other bit, and refuses any other value with
`RangeError(id)`, leaving everything as it was. What a write does to a built link is SettingsWritesDropTheBuiltLink. -/
def Obligations.SetFieldWritesOnlyItsBits : Prop :=
  ∀ (s : State) (f : Field) (v : Nat),
    let d := fieldDescr f
    let stored := if d.isCount = true then v - 1 else v
    let fits := (d.isCount = true → 1 ≤ v) ∧ stored < 2 ^ d.width
    (fits → ∃ t, exec (.cfgSetField f v) s = .next t ∧ t = { s with cfg := t.cfg, link := t.link, reply := .done }
        ∧ ∀ o b, b < 8 → (memReadCfg t.cfg o).getLsbD b =
            if o = d.octet ∧ d.off ≤ b ∧ b < d.off + d.width then stored.testBit (b - d.off) else (memReadCfg s.cfg o).getLsbD b)
      ∧ (¬ fits → exec (.cfgSetField f v) s = .next { s with reply := .error (.rangeError (some f)) })

/-- R123: `get_field` returns the field's bits as a number, plus 1 for a count field; R127: `serialize` returns the 14 octets exactly, a
stale FCHK included. Neither has a side effect. -/
def Obligations.SettingsAreReadWithoutSideEffect : Prop :=
  ∀ (s : State) (f : Field),
    let d := fieldDescr f
    let raw := (memReadCfg s.cfg d.octet).toNat / 2 ^ d.off % 2 ^ d.width
    exec (.cfgGetField f) s = .next { s with reply := .value (if d.isCount = true then raw + 1 else raw) }
      ∧ exec .cfgSerialize s = .next { s with reply := .octets s.cfg.toList }

/-- A field written reads back, and every other field reads as before (R122, R123): no two fields overlap. -/
def Obligations.FieldsAreIndependent : Prop :=
  ∀ (c c' : Settings) (f : Field) (v : Nat), setField f v c = .ok c' →
    getField f c' = v ∧ ∀ g, g ≠ f → getField g c' = getField g c

/-- R126: the two checksums, as sums modulo 256 over octets 0 to 10 and over the stored bit-fields of the 19 fields. -/
def Obligations.ChecksumSums : Prop :=
  ∀ c : Settings,
    let o := fun i => (memReadCfg c i).toNat
    let r := fun f => rawField f c
    (checksum .octets c).toNat = (o 0 + o 1 + o 2 + o 3 + o 4 + o 5 + o 6 + o 7 + o 8 + o 9 + o 10) % 256
      ∧ (checksum .fields c).toNat =
          (r .DID + r .BID + r .ADJCNT + r .LID + r .PHADJ + r .ADJDIR + r .L + r .SCR + r .F + r .K + r .M + r .N + r .CS + r .NP
            + r .SUBCLASSV + r .S + r .JESDV + r .CF + r .HD) % 256

/-- R125, R133: `recompute_checksum` validates, then writes octet 13 and nothing else; done twice it is done once. -/
def Obligations.RecomputeValidatesThenWrites : Prop :=
  ∀ s : State,
    let F := getField .F s.cfg
    let goodF := F = 1 ∨ F = 2 ∨ F = 4
    let msnp := getField .M s.cfg * getField .S s.cfg * getField .NP s.cfg = 8 * F * getField .L s.cfg
    (¬ goodF → exec .cfgRecompute s = .next { s with reply := .error (.configError .F_UNSUPPORTED) })
      ∧ (goodF → ¬ msnp → exec .cfgRecompute s = .next { s with reply := .error (.configError .MSNP) })
      ∧ (goodF → msnp → ∃ t, exec .cfgRecompute s = .next t ∧ t = { s with cfg := t.cfg, link := t.link, reply := .done }
          ∧ memReadCfg t.cfg 13 = checksum s.params.mode s.cfg
          ∧ (∀ o, o ≠ 13 → memReadCfg t.cfg o = memReadCfg s.cfg o) ∧ recompute s.params.mode t.cfg = .ok t.cfg)

/-- R128: `deserialize` refuses an array that is not 14 octet values, then a wrong checksum, and otherwise takes the octets as they are.
`c` is the register with these octets. -/
def Obligations.DeserializeChecksThenLoads : Prop :=
  ∀ (s : State) (b : List Nat) (c : Settings),
    let shaped := b.length = 14 ∧ ∀ x ∈ b, x < 256
    let sound := checksum s.params.mode c = memReadCfg c 13
    (¬ shaped → exec (.cfgDeserialize b) s = .next { s with reply := .error (.rangeError none) })
      ∧ (shaped → c.toList.map BitVec.toNat = b →
          (¬ sound → exec (.cfgDeserialize b) s = .next { s with reply := .error .checksumMismatch })
            ∧ (sound → ∃ t, exec (.cfgDeserialize b) s = .next t ∧ t = { s with cfg := c, link := t.link, reply := .done }))
      ∧ (shaped → ∃ d : Settings, d.toList.map BitVec.toNat = b)

/-- R137: settings whose checksum is current survive `serialize` and `deserialize` under the same mode. -/
def Obligations.SerializeRoundTrip : Prop :=
  ∀ (m : ChecksumMode) (c c' : Settings), recompute m c = .ok c' → deserialize m (c'.toList.map BitVec.toNat) = .ok c'

/-- R290: a configuration operation that raises leaves every octet, table and parameter, and everything else, as it was. -/
def Obligations.ConfigErrorsLeaveAllAsItWas : Prop :=
  ∀ (s t : State) (i : Instr) (e : CfgError), i.port = .cfgop → exec i s = .next t → t.reply = .error e →
    t = { s with reply := .error e }

/-- R134, R293: `link_build` raises the first failing check in the spec's order; when all pass, it builds a link on these settings and
parameters with one settings octet string and one table per lane, or raises RangeError(LID) if a lane's ID is above 31 (93_implementation_defined.md
I7; that this comes after the listed checks is the model's, log 25). -/
def Obligations.LinkBuildChecksInOrder : Prop :=
  ∀ s : State,
    let dw := s.params.dw
    let F := getField .F s.cfg
    let K := getField .K s.cfg
    let L := getField .L s.cfg
    let opc := dw / 8
    let fpc := opc / F
    let okDW := 8 ≤ dw ∧ dw % 8 = 0
    let okF := F = 1 ∨ F = 2 ∨ F = 4
    let okMSNP := getField .M s.cfg * getField .S s.cfg * getField .NP s.cfg = 8 * F * L
    let okFPC := opc % F = 0
    let okK := K % fpc = 0
    let okILAS := 17 ≤ K * F ∧ 2 ≤ K / fpc
    let okLOAD := s.params.lmfcLoad < K / fpc
    let raises := fun c => exec .cfgLinkBuild s = .next { s with reply := .error (.configError c) }
    (¬ okDW → raises .DW) ∧ (okDW → ¬ okF → raises .F_UNSUPPORTED) ∧ (okDW → okF → ¬ okMSNP → raises .MSNP)
      ∧ (okDW → okF → okMSNP → ¬ okFPC → raises .FPC) ∧ (okDW → okF → okMSNP → okFPC → ¬ okK → raises .K_FPC)
      ∧ (okDW → okF → okMSNP → okFPC → okK → ¬ okILAS → raises .ILAS_SHORT)
      ∧ (okDW → okF → okMSNP → okFPC → okK → okILAS → ¬ okLOAD → raises .LOAD)
      ∧ (okDW → okF → okMSNP → okFPC → okK → okILAS → okLOAD → (∀ n < L, s.params.lid n < 32) →
          ∃ t lk, exec .cfgLinkBuild s = .next t ∧ t.reply = .built ∧ t.link = some lk ∧ lk.params = s.params ∧ lk.cfg = s.cfg
            ∧ lk.laneCfg.length = L ∧ lk.table.length = L ∧ t.cfg = s.cfg ∧ t.params = s.params ∧ t.program = s.program)
      ∧ (okDW → okF → okMSNP → okFPC → okK → okILAS → okLOAD → (∃ n < L, 32 ≤ s.params.lid n) →
          exec .cfgLinkBuild s = .next { s with reply := .error (.rangeError (some .LID)) })

/-- R130: lane `n`'s settings are the link's with LID set to `LID[n]` and FCHK recomputed, on every lane and whatever FCHK the register
holds, and nothing but LID and FCHK differs. So a lane whose LID is the register's, with a current FCHK there, has the register's
settings. The third bullet of R335 reads otherwise for a stale FCHK (log 28). -/
def Obligations.LanesCarryTheirOwnLid : Prop :=
  ∀ (p : Params) (c : Settings) (lk : Link) (n : Nat), linkBuild p c = .ok lk → n < lk.lanes →
    ∃ cn, lk.laneCfg[n]? = some cn ∧ getField .LID cn = p.lid n
      ∧ (∀ o, o ≠ 2 → o ≠ 13 → memReadCfg cn o = memReadCfg c o) ∧ memReadCfg cn 2 >>> 5 = memReadCfg c 2 >>> 5
      ∧ memReadCfg cn 13 = checksum p.mode cn
      ∧ (p.lid n = getField .LID c → memReadCfg c 13 = checksum p.mode c → cn = c)

/-- R129: importing the export of settings with no unused bit set and a current checksum gives the same settings. -/
def Obligations.ImportOfExport : Prop :=
  ∀ (m : ChecksumMode) (c : Settings), recompute m c = .ok c →
    (memReadCfg c 2 &&& 0x80 = 0 ∧ memReadCfg c 3 &&& 0x60 = 0 ∧ memReadCfg c 7 &&& 0x20 = 0 ∧ memReadCfg c 10 &&& 0x60 = 0) →
    importNamed m (exportNamed c) = .ok c

/-- R131, R75 and 00_scope.md R8: on a built link frames fill cycles and cycles fill multiframes exactly, and the ranges the engines
rely on hold. R193: every last octet of a multiframe is the last octet of a frame. -/
def Obligations.BuiltLinksAreExact : Prop :=
  ∀ (p : Params) (c : Settings) (lk : Link), linkBuild p c = .ok lk →
    (lk.f = 1 ∨ lk.f = 2 ∨ lk.f = 4) ∧ getField .M c * getField .S c * getField .NP c = 8 * lk.f * lk.lanes
      ∧ lk.opc = lk.fpc * lk.f ∧ lk.k = lk.c * lk.fpc ∧ lk.k * lk.f = lk.c * lk.opc ∧ 17 ≤ lk.k * lk.f
      ∧ 2 ≤ lk.c ∧ 1 ≤ lk.opc ∧ p.dw = 8 * lk.opc ∧ p.lmfcLoad < lk.c
      ∧ ∀ (l : TxLane) (j : Nat), lastMf lk l j = true → lastF lk j = true

/-- R136: without a built link no operation of an engine runs. -/
def Obligations.EnginesNeedABuiltLink : Prop :=
  ∀ (s : State) (i : Instr), s.link = none → i.port ≠ .sym → i.port ≠ .cfgop → (∀ n, i ≠ .txIllegal n) →
    exec i s = .refused .linkNotBuilt

/-- R80: no operation of an engine and no cycle changes the parameters, the settings or the built link. -/
def Obligations.EnginesNeverChangeTheSettings : Prop :=
  (∀ (s t : State) (i : Instr), i.port ≠ .cfgop → exec i s = .next t → t.params = s.params ∧ t.cfg = s.cfg ∧ t.link = s.link)
    ∧ (∀ (s t : State) (inp : CycleInputs) (rest : List Item), s.program = .cycle inp :: rest → step s = .next t →
        t.params = s.params ∧ t.cfg = s.cfg ∧ t.link = s.link)
    ∧ ∀ s t : State, step s = .next t → t.params = s.params

/-! ## LMFC divider -/

/-- R152 with R150 and R151: the three operations, and the rule that selects one in a cycle (`rst` before the rising edge of `jref`). -/
def Obligations.LmfcDividerStep : Prop :=
  ∀ (s : State) (lk : Link) (e : Engine) (r : Bool), s.link = some lk → (s.lmfc e).count < lk.c →
    let zero := decide ((s.lmfc e).count = 0)
    let rise := s.jref e && !(s.lmfc e).jrefPrev
    let load : Lmfc := ⟨lk.params.lmfcLoad, s.jref e⟩
    let count : Lmfc := ⟨((s.lmfc e).count + 1) % lk.c, s.jref e⟩
    LmfcRuns (exec (.lmfcReset e r) s) e s ⟨0, false⟩ zero rise ∧ LmfcRuns (exec (.lmfcLoad e) s) e s load zero rise
      ∧ LmfcRuns (exec (.lmfcCount e) s) e s count zero rise
      ∧ LmfcRuns (runInstance ⟨.lmfc, e.num, 0⟩ s) e s (if s.rst e then ⟨0, false⟩ else if rise then load else count) zero rise

/-! ## Scrambler and descrambler -/

/-- R172, R173: the scrambler's three operations, and the rule that selects one in a cycle. -/
def Obligations.ScramblerStep : Prop :=
  ∀ (s : State) (lk : Link) (n : Nat) (l : TxLane) (b : Bool), TxAt s lk n l →
    let reset := fun x : TxLane => { x with scrState := 0x7F80, scrOut := List.replicate lk.opc 0, scrValid := false }
    let step := fun x : TxLane =>
      { x with scrOut := (scramble l.scrState (s.txWord n)).1, scrState := (scramble l.scrState (s.txWord n)).2, scrValid := true }
    let bypass := fun x : TxLane => { x with scrOut := s.txWord n, scrValid := true }
    TxRuns (exec (.scrReset n b) s) n s reset id ∧ TxRuns (exec (.scrStep n) s) n s step id
      ∧ TxRuns (exec (.scrBypass n) s) n s bypass id
      ∧ TxRuns (runInstance ⟨.scr, n, 0⟩ s) n s
          (if s.inp.txRst = true ∨ l.state = 0 ∨ l.state = 1 then reset else if getField .SCR lk.cfg = 1 then step else bypass) id

/-- R175, R173, R261: the descrambler's three operations, their outputs `rx_out` and `rx_out_valid`, and the rule that selects one in a
cycle. Its input is the aligned word's data (R200). -/
def Obligations.DescramblerStep : Prop :=
  ∀ (s : State) (lk : Link) (n : Nat) (l : RxLane) (b : Bool), RxAt s lk n l →
    let w := (alignedWord lk s n l).map Sym.octet
    let out := fun x : RxSig => { x with out := l.dscrOut, outValid := l.dscrValid }
    let reset := fun x : RxLane => { x with dscrState := 0x7F80, dscrOut := List.replicate lk.opc 0, dscrValid := false }
    let step := fun x : RxLane =>
      { x with dscrOut := (descramble l.dscrState w).1, dscrState := (descramble l.dscrState w).2, dscrValid := true }
    let bypass := fun x : RxLane => { x with dscrOut := w, dscrValid := true }
    RxRuns (exec (.descrReset n b) s) n s reset out ∧ RxRuns (exec (.descrStep n) s) n s step out
      ∧ RxRuns (exec (.descrBypass n) s) n s bypass out
      ∧ RxRuns (runInstance ⟨.descr, n, 0⟩ s) n s
          (if s.inp.rxRst = true ∨ l.state ≠ 3 then reset else if getField .SCR lk.cfg = 1 then step else bypass) out

/-- R170: with the bits of a word in wire order (slot 0 bit 7 first) and the state's 15 bits, oldest first, before them, each scrambled
bit is the data bit XOR the scrambled bits 14 and 15 before it, the new state is the last 15 scrambled bits, and the descrambler takes
the same XOR of the received bits. -/
def Obligations.ScramblingIsTheSerialEquation : Prop :=
  ∀ (st : BitVec 15) (w : DataWord),
    let wire := fun x : DataWord => x.flatMap octetBits
    let old := (stateBits st).reverse
    let sent := old ++ wire (scramble st w).1
    let recv := old ++ wire w
    let last := fun q : List Bool => (q.drop (q.length - 15)).reverse
    (scramble st w).1.length = w.length ∧ (descramble st w).1.length = w.length
      ∧ (∀ p, p < 8 * w.length →
          sent.getD (p + 15) false = ((wire w).getD p false ^^ sent.getD (p + 1) false ^^ sent.getD p false)
            ∧ (wire (descramble st w).1).getD p false =
                (recv.getD (p + 15) false ^^ recv.getD (p + 1) false ^^ recv.getD p false))
      ∧ stateBits (scramble st w).2 = last sent ∧ stateBits (descramble st w).2 = last recv

/-- R178: scrambling two words at once gives the octets and the state of scrambling one after the other, so the link width does not
matter. -/
def Obligations.ScramblingIsIndependentOfTheWidth : Prop :=
  ∀ (st : BitVec 15) (u v : DataWord),
    scramble st (u ++ v) =
      ((scramble st u).1 ++ (scramble (scramble st u).2 v).1, (scramble (scramble st u).2 v).2)

/-- R177: a descrambler that starts from the scrambler's state gives back every sequence of words, and the states stay equal. -/
def Obligations.DescramblingInvertsScrambling : Prop :=
  ∀ (st : BitVec 15) (ws : List DataWord),
    let tx := ws.foldl (fun (a : List DataWord × BitVec 15) w => (a.1 ++ [(scramble a.2 w).1], (scramble a.2 w).2)) ([], st)
    let rx := tx.1.foldl (fun (a : List DataWord × BitVec 15) w => (a.1 ++ [(descramble a.2 w).1], (descramble a.2 w).2)) ([], st)
    rx.1 = ws ∧ rx.2 = tx.2

/-- R176: after two octets, in one word or in several, the descrambler's state is that of the scrambler that sent them, whatever either
was before, and only the first 15 bits of its output can differ from the data. -/
def Obligations.DescramblerSynchronizesItself : Prop :=
  ∀ (st st' : BitVec 15) (ws : List DataWord), 2 ≤ ws.flatten.length →
    let tx := ws.foldl (fun (a : List DataWord × BitVec 15) w => (a.1 ++ [(scramble a.2 w).1], (scramble a.2 w).2)) ([], st)
    let rx := tx.1.foldl (fun (a : List DataWord × BitVec 15) w => (a.1 ++ [(descramble a.2 w).1], (descramble a.2 w).2)) ([], st')
    rx.2 = tx.2
      ∧ ∀ p, 15 ≤ p → (rx.1.flatten.flatMap octetBits).getD p false = (ws.flatten.flatMap octetBits).getD p false

/-! ## Framing and alignment -/

/-- R191 with the masks of R190 and R192: the framer's two operations and the rule that selects one in a cycle. -/
def Obligations.FramerStep : Prop :=
  ∀ (s : State) (lk : Link) (n : Nat) (l : TxLane), TxAt s lk n l →
    let masks := fun x : TxSig =>
      { x with
        lastF := (List.range lk.opc).map (fun j => decide ((j + 1) % getField .F lk.cfg = 0))
        lastMf := (List.range lk.opc).map (fun j => decide (l.frCnt + 1 = lk.c ∧ j + 1 = lk.opc)) }
    let reset := fun x : TxLane => { x with frCnt := 0 }
    let step := fun x : TxLane => { x with frCnt := if l.frCnt + 1 = lk.c then 0 else l.frCnt + 1 }
    TxRuns (exec (.framerReset n) s) n s reset masks ∧ TxRuns (exec (.framerStep n) s) n s step masks
      ∧ TxRuns (runInstance ⟨.framer, n, 0⟩ s) n s
          (if s.inp.txRst = true ∨ l.state = 0 ∨ l.state = 1 then reset else step) masks

/-- R196: the AlignInserter's operations set one flag of its output, the rule selects them, and the word sent in SEND_DATA has exactly
these flags and the scrambler's octets, never changed. -/
def Obligations.AlignInserterFlags : Prop :=
  ∀ (s : State) (lk : Link) (n j : Nat) (l : TxLane) (a b : Bool) (sel : BitVec 4), TxAt s lk n l → j < lk.opc →
    let put := fun v => fun x : TxSig => { x with insCtrl := x.insCtrl.set j v }
    let flag := fun d : Octet =>
      decide ((lastMf lk l j = true ∧ d = 0x7C) ∨ (lastF lk j = true ∧ lastMf lk l j = false ∧ d = 0xFC))
    TxRuns (exec (.alignInsA n j a b) s) n s id (put true) ∧ TxRuns (exec (.alignInsF n j a) s) n s id (put true)
      ∧ TxRuns (exec (.alignInsPass n j sel) s) n s id (put false)
      ∧ TxRuns (runInstance ⟨.alignIns, n, j⟩ s) n s id (put (flag (l.scrOut.getD j 0)))
      ∧ (insertedWord lk l).map Sym.octet = l.scrOut
      ∧ ∀ d, l.scrOut[j]? = some d → (insertedWord lk l)[j]? = some ⟨flag d, d⟩

/-- R198, R199, R200: the AlignReplacer clears every flag and keeps the data, the Deframer is the identity, and what the AlignInserter
marked comes back as the data that was scrambled. -/
def Obligations.ReplacerAndDeframerRecoverTheData : Prop :=
  (∀ (s : State) (lk : Link) (n : Nat) (l : RxLane), RxAt s lk n l →
    let w := alignedWord lk s n l
    RxRuns (exec (.alignReplClear n) s) n s id (fun x => { x with replaced := w.map (fun y => ⟨false, y.octet⟩) })
      ∧ RxRuns (exec (.deframerPass n) s) n s id (fun x => { x with deframed := w.map Sym.octet })
      ∧ rxDataWord lk s n l = w.map Sym.octet)
    ∧ ∀ (lk : Link) (l : TxLane), deframe (replaceFlags (insertedWord lk l)) = l.scrOut

/-- R203: the Aligner's operations and the rule that selects one in a cycle. The offset taken is the lowest slot that holds `/R/`, and
it is kept when no slot does. -/
def Obligations.AlignerStep : Prop :=
  ∀ (s : State) (lk : Link) (n : Nat) (l : RxLane) (b : Bool), RxAt s lk n l →
    let isRAt := fun j => (s.rxWord n)[j]? = some ⟨true, 0x1C⟩
    let out := fun x : RxSig => { x with aligned := ((l.alPrev ++ s.rxWord n).drop l.alOff).take lk.opc }
    let reset := fun x : RxLane => { x with alPrev := List.replicate lk.opc Sym.zero, alOff := 0 }
    let take := fun o => fun x : RxLane => { x with alPrev := s.rxWord n, alOff := o }
    RxRuns (exec (.alignerReset n b) s) n s reset out
      ∧ RxRuns (exec (.alignerHold n) s) n s (fun x => { x with alPrev := s.rxWord n }) out
      ∧ (∀ o, isRAt o → (∀ j < o, ¬ isRAt j) → RxRuns (exec (.alignerLatch n) s) n s (take o) out)
      ∧ (s.inp.rxRst = true → RxRuns (runInstance ⟨.aligner, n, 0⟩ s) n s reset out)
      ∧ (s.inp.rxRst = false → (∀ o, isRAt o → (∀ j < o, ¬ isRAt j) → RxRuns (runInstance ⟨.aligner, n, 0⟩ s) n s (take o) out)
          ∧ ((∀ j, ¬ isRAt j) →
              RxRuns (runInstance ⟨.aligner, n, 0⟩ s) n s (fun x => { x with alPrev := s.rxWord n }) out))

/-- R204: the aligned word is octets `al_off …` of the previous input followed by octets `… al_off − 1` of the current one; and R206: it
undoes a delay of the stream by `k` octets. -/
def Obligations.AlignerUndoesSubWordSkew : Prop :=
  ∀ (opc k : Nat) (u v w : LinkWord), u.length = opc → v.length = opc → w.length = opc → k < opc →
    alignSlice opc k u v = u.drop k ++ v.take k
      ∧ alignSlice opc k (u.drop (opc - k) ++ v.take (opc - k)) (v.drop (opc - k) ++ w.take (opc - k)) = v

/-! ## Preambles -/

/-- R220: the CGS generator. R221 and R230: the CGS checker and the ILAS start checker, on the aligned word. -/
def Obligations.CgsAndStartCheckers : Prop :=
  (∀ (s : State) (lk : Link) (n : Nat) (l : TxLane), TxAt s lk n l →
      TxRuns (exec (.cgsGen n) s) n s id (fun x => { x with cgsWord := List.replicate lk.opc ⟨true, 0xBC⟩ }))
    ∧ ∀ (s : State) (lk : Link) (n : Nat) (l : RxLane), RxAt s lk n l →
      let w := alignedWord lk s n l
      (∃ v, RxRuns (exec (.cgsCheck n) s) n s id (fun x => { x with cgsValid := v })
          ∧ (v = true ↔ ∀ y ∈ w, y = (⟨true, 0xBC⟩ : Sym)))
        ∧ ∃ v, RxRuns (exec (.ilasStart n) s) n s id (fun x => { x with startValid := v })
          ∧ (v = true ↔ ∃ t, w = (⟨true, 0x1C⟩ : Sym) :: t ∧ ∀ y ∈ t, y.ctrl = false)

/-- R222, R223: the ILAS table of a built link's lane has LEN entries, and octet `mf·OPM + i` of the lane's sequence, which stands in
slot `(mf·OPM + i) mod OPC` of entry `(mf·OPM + i) div OPC`, is the symbol the rule gives. -/
def Obligations.IlasTableContent : Prop :=
  ∀ (p : Params) (c : Settings) (lk : Link) (n : Nat) (cn : Settings), linkBuild p c = .ok lk → lk.laneCfg[n]? = some cn →
    (lk.table[n]?).map List.length = some (4 * lk.c)
      ∧ ∀ mf i, mf < 4 → i < lk.k * lk.f →
        let opm := lk.k * lk.f
        let q := mf * opm + i
        ∃ w, memReadIlas lk n (q / lk.opc) = some w ∧ w.length = lk.opc
          ∧ w[q % lk.opc]? = some
              (if i = 0 then ⟨true, 0x1C⟩
               else if i = opm - 1 then ⟨true, 0x7C⟩
               else if mf = 1 ∧ i = 1 then ⟨true, 0x9C⟩
               else if mf = 1 ∧ i ≤ 15 then ⟨false, cn.toList.getD (i - 2) 0⟩
               else if p.ilasCounter = true then ⟨false, BitVec.ofNat 8 q⟩ else ⟨false, 0⟩)

/-- R227, R138: two lanes' ILAS tables differ at most in the entry that carries octet 2 (LID) and the entry that carries octet 13. -/
def Obligations.LaneTablesDifferInLidAndChecksumOnly : Prop :=
  ∀ (p : Params) (c : Settings) (lk : Link) (n m e : Nat), linkBuild p c = .ok lk → n < lk.lanes → m < lk.lanes →
    e ≠ lk.c + 4 / lk.opc → e ≠ lk.c + 15 / lk.opc → memReadIlas lk n e = memReadIlas lk m e

/-- R231: in the ILAS of a built link the start checker accepts entries 0, 2C and 3C, with one octet per cycle also entry C, and no
other; and it accepts no CGS word and no word sent in SEND_DATA. -/
def Obligations.StartCheckerAcceptsMultiframeStarts : Prop :=
  ∀ (p : Params) (c : Settings) (lk : Link), linkBuild p c = .ok lk →
    (∀ (n e : Nat) (w : LinkWord), memReadIlas lk n e = some w →
        (ilasStartValid w = true ↔ e = 0 ∨ (e = lk.c ∧ lk.opc = 1) ∨ e = 2 * lk.c ∨ e = 3 * lk.c))
      ∧ ilasStartValid (cgsWord lk.opc) = false ∧ ∀ l : TxLane, ilasStartValid (insertedWord lk l) = false

/-- R224: the ILAS generator's operations, for the entry `w` at `ilas_idx`, and the rule that selects one in a cycle. -/
def Obligations.IlasGeneratorStep : Prop :=
  ∀ (s : State) (lk : Link) (n : Nat) (l : TxLane) (w : LinkWord), TxAt s lk n l → memReadIlas lk n l.ilasIdx = some w →
    let out := fun x : TxSig => { x with ilasWord := w, ilasDone := decide (l.ilasIdx + 1 = lk.len) }
    let reset := fun x : TxLane => { x with ilasIdx := 0 }
    let step := fun x : TxLane => { x with ilasIdx := min (l.ilasIdx + 1) (lk.len - 1) }
    TxRuns (exec (.ilasGenReset n) s) n s reset out ∧ TxRuns (exec (.ilasGenStep n) s) n s step out
      ∧ TxRuns (runInstance ⟨.ilasGen, n, 0⟩ s) n s (if s.inp.txRst = true ∨ l.state = 0 then reset else step) out

/-- R228: the ILAS checker's operations, for the entry `e` at `ic_idx`, and the rule that selects one in a cycle. Its input register
takes the aligned word in every state, and is reset by `rst` only. -/
def Obligations.IlasCheckerStep : Prop :=
  ∀ (s : State) (lk : Link) (n : Nat) (l : RxLane) (e : LinkWord), RxAt s lk n l → memReadIlas lk n l.icIdx = some e →
    let out := fun x : RxSig => { x with icValid := decide (l.icIn = e), icDone := decide (l.icIdx + 1 = lk.len) }
    let icIn := if s.inp.rxRst = true then List.replicate lk.opc Sym.zero else alignedWord lk s n l
    let reset := fun x : RxLane => { x with icIn := icIn, icIdx := 0 }
    let step := fun x : RxLane => { x with icIn := icIn, icIdx := min (l.icIdx + 1) (lk.len - 1) }
    RxRuns (exec (.ilasChkReset n) s) n s reset out ∧ RxRuns (exec (.ilasChkStep n) s) n s step out
      ∧ RxRuns (runInstance ⟨.ilasChk, n, 0⟩ s) n s (if s.inp.rxRst = true ∨ l.state ≠ 2 then reset else step) out

/-! ## Link state machines -/

/-- R251, R252, R255: in each TX state the lane sends that state's word, `tx_ready` is 1 in SEND_DATA only, and the state register takes
the rule's next state; in a cycle the state code selects the operation. SEND_CGS reads `lmfc_zero`, so the count is in its range (R33). -/
def Obligations.TxStateMachine : Prop :=
  ∀ (s : State) (lk : Link) (n : Nat) (l : TxLane) (w : LinkWord), TxAt s lk n l → memReadIlas lk n l.ilasIdx = some w →
    let back := s.inp.txRst || s.inp.txResync
    let desync := decide (s.inp.jsync = false ∧ lk.params.nDesync ≤ l.desyncCnt + 1)
    let go := fun c => fun x : TxLane => { x with state := if back = true then 0 else c }
    let out := fun v r => fun x : TxSig => { x with out := v, ready := r }
    (s.cur.txLmfc.count < lk.c →
        TxRuns (exec (.txSendCgs n) s) n s (go (if s.inp.jsync = true ∧ s.cur.txLmfc.count = 0 then 1 else 0))
          (out (List.replicate lk.opc ⟨true, 0xBC⟩) false))
      ∧ TxRuns (exec (.txSendIlas n) s) n s (go (if l.ilasIdx + 1 = lk.len then 2 else 1)) (out w false)
      ∧ TxRuns (exec (.txSendData n) s) n s (go (if desync = true then 0 else 2)) (out (insertedWord lk l) true)
      ∧ (l.state = 0 → runInstance ⟨.txFsm, n, 0⟩ s = exec (.txSendCgs n) s)
      ∧ (l.state = 1 → runInstance ⟨.txFsm, n, 0⟩ s = exec (.txSendIlas n) s)
      ∧ (l.state = 2 → runInstance ⟨.txFsm, n, 0⟩ s = exec (.txSendData n) s)

/-- R106: CFGOP numbers 6 and 7 are a fault of the model. -/
def Obligations.ReservedConfigNumbersFault : Prop :=
  ∀ (s : State) (b : Bool), exec (.cfgReserved b) s = .fault .cfgopReserved
    ∧ decode .cfgop [6] = .ok (.cfgReserved false) ∧ decode .cfgop [7] = .ok (.cfgReserved true)

/-- R254: the desync timer. R258: the TX sync-loss counter counts exits from SEND_DATA, saturates, and does not count a reset. -/
def Obligations.DesyncTimerAndTxCounter : Prop :=
  ∀ (s : State) (lk : Link) (n : Nat) (l : TxLane), TxAt s lk n l →
    let desync := s.inp.jsync = false ∧ lk.params.nDesync ≤ l.desyncCnt + 1
    TxRuns (exec (.txDesync n) s) n s
        (fun x => { x with
          desyncCnt := if s.inp.txRst = true ∨ s.inp.jsync = true then 0 else min (l.desyncCnt + 1) lk.params.nDesync })
        (fun x => { x with desync := decide desync })
      ∧ TxRuns (exec (.txSyncLoss n) s) n s
        (fun x => { x with
          syncLoss :=
            if s.inp.txRst = true then 0
            else if l.state = 2 ∧ (s.inp.txResync = true ∨ desync) then min (l.syncLoss + 1) (2 ^ lk.params.cntWidth - 1)
            else l.syncLoss }) id

/-- R262 to R265: in each RX state the lane drives that state's outputs and the state register takes the rule's next state; in a cycle
the state code selects the operation. RECEIVE_CGS reads `lmfc_zero`, so the count is in its range (R33). -/
def Obligations.RxStateMachine : Prop :=
  ∀ (s : State) (lk : Link) (n : Nat) (l : RxLane) (e : LinkWord), RxAt s lk n l → memReadIlas lk n l.icIdx = some e →
    let w := alignedWord lk s n l
    let back := s.inp.rxRst || s.inp.rxResync
    let go := fun c => fun x : RxLane => { x with state := if back = true then 0 else c }
    let out := fun a j r => fun x : RxSig => { x with align := a, jsync := j, ready := r }
    (s.cur.rxLmfc.count < lk.c →
        RxRuns (exec (.rxReceiveCgs n) s) n s (go (if s.cur.rxLmfc.count = 0 ∧ cgsValid w = true then 1 else 0)) (out true false false))
      ∧ RxRuns (exec (.rxAssertSync n) s) n s (go (if ilasStartValid w = true then 2 else 1)) (out false true false)
      ∧ RxRuns (exec (.rxReceiveIlas n) s) n s
          (go (if lk.params.strictIlas = true ∧ l.icIn ≠ e then 0 else if l.icIdx + 1 = lk.len then 3 else 2)) (out false true false)
      ∧ RxRuns (exec (.rxReceiveData n) s) n s (go (if cgsValid w = true then 0 else 3)) (out false true true)
      ∧ (l.state = 0 → runInstance ⟨.rxFsm, n, 0⟩ s = exec (.rxReceiveCgs n) s)
      ∧ (l.state = 1 → runInstance ⟨.rxFsm, n, 0⟩ s = exec (.rxAssertSync n) s)
      ∧ (l.state = 2 → runInstance ⟨.rxFsm, n, 0⟩ s = exec (.rxReceiveIlas n) s)
      ∧ (l.state = 3 → runInstance ⟨.rxFsm, n, 0⟩ s = exec (.rxReceiveData n) s)

/-- R268: the RX counters saturate, count ILAS mismatches (strict or not) and falls back from RECEIVE_ILAS and RECEIVE_DATA, and do not
count a reset. -/
def Obligations.RxCounters : Prop :=
  ∀ (s : State) (lk : Link) (n : Nat) (l : RxLane) (e : LinkWord), RxAt s lk n l → memReadIlas lk n l.icIdx = some e →
    let more := fun x => min (x + 1) (2 ^ lk.params.cntWidth - 1)
    let lost :=
      (l.state = 2 ∧ (s.inp.rxResync = true ∨ (lk.params.strictIlas = true ∧ l.icIn ≠ e)))
        ∨ (l.state = 3 ∧ (s.inp.rxResync = true ∨ cgsValid (alignedWord lk s n l) = true))
    RxRuns (exec (.rxIlasErr n) s) n s
        (fun x => { x with
          ilasErr := if s.inp.rxRst = true then 0 else if l.state = 2 ∧ l.icIn ≠ e then more l.ilasErr else l.ilasErr }) id
      ∧ RxRuns (exec (.rxSyncLoss n) s) n s
        (fun x => { x with syncLoss := if s.inp.rxRst = true then 0 else if lost then more l.syncLoss else l.syncLoss }) id

/-- R259: the TX aggregate is 1 exactly when every TX lane is in SEND_DATA, and has no register. R270: the RX aggregates are reset by
`rst`, take the AND over the lanes in an `lmfc_zero` cycle, and hold otherwise. The state codes and the count they read are legal (R33,
R37). -/
def Obligations.AggregatesAreTheAndOfTheLanes : Prop :=
  ∀ (s : State) (lk : Link), s.link = some lk →
    ((∀ l ∈ s.cur.tx, l.state ≠ 3) →
        exec .txAgg s = .next { s with sig := { s.sig with txReady := decide (∀ l ∈ s.cur.tx, l.state = 2) } })
      ∧ (s.cur.rxLmfc.count < lk.c →
        exec .rxAgg s = .next { s with nxt := { s.nxt with agg :=
          if s.inp.rxRst = true then ⟨false, false⟩
          else if s.cur.rxLmfc.count = 0 then
            ⟨decide (∀ l ∈ s.cur.rx, l.state = 1 ∨ l.state = 2 ∨ l.state = 3), decide (∀ l ∈ s.cur.rx, l.state = 3)⟩
          else s.cur.agg } })

/-- R305 with R104 and R74: the TX state code 11, which no transition enters, an `lmfc_count ≥ C`, an `al_off ≥ OPC` and an ILAS index
without an entry stop the machine with a fault in every operation listed. Which operations read each value is the model's reading of
R305 (log 15). TX.ILLEGAL is the fault of code 11. -/
def Obligations.IllegalStatesFault : Prop :=
  (∀ (s : State) (n : Nat), exec (.txIllegal n) s = .fault (.txStateIllegal n))
    ∧ (∀ (s : State) (lk : Link) (n j : Nat) (l : TxLane) (a b : Bool) (v : BitVec 4), s.link = some lk → s.cur.tx[n]? = some l →
        l.state = 3 →
        (∀ i ∈ [Instr.txSendCgs n, .txSendIlas n, .txSendData n, .scrReset n a, .scrStep n, .scrBypass n, .framerReset n, .framerStep n,
            .alignInsA n j a b, .alignInsF n j a, .alignInsPass n j v, .cgsGen n, .ilasGenReset n, .ilasGenStep n, .txDesync n,
            .txSyncLoss n],
          exec i s = .fault (.txStateIllegal n))
          ∧ (∀ p ∈ [Port.txFsm, .scr, .framer, .alignIns, .cgsGen, .ilasGen, .txDesync, .txSyncLoss],
              runInstance ⟨p, n, j⟩ s = .fault (.txStateIllegal n))
          ∧ ∃ m, exec .txAgg s = .fault (.txStateIllegal m))
    ∧ (∀ (s : State) (lk : Link) (l : TxLane), nextSendCgs s ≠ 3 ∧ nextSendIlas lk s l ≠ 3 ∧ nextSendData lk s l ≠ 3)
    ∧ (∀ (s : State) (lk : Link) (e : Engine) (r : Bool), s.link = some lk → lk.c ≤ (s.lmfc e).count →
      ∀ i ∈ [Instr.lmfcReset e r, .lmfcLoad e, .lmfcCount e], exec i s = .fault (.lmfcCountRange e))
    ∧ (∀ (s : State) (lk : Link) (n : Nat) (l : TxLane), TxAt s lk n l → lk.c ≤ s.cur.txLmfc.count →
      exec (.txSendCgs n) s = .fault (.lmfcCountRange .tx))
    ∧ (∀ (s : State) (lk : Link) (n : Nat) (l : RxLane), RxAt s lk n l → lk.c ≤ s.cur.rxLmfc.count →
      exec (.rxReceiveCgs n) s = .fault (.lmfcCountRange .rx))
    ∧ (∀ (s : State) (lk : Link), s.link = some lk → lk.c ≤ s.cur.rxLmfc.count → exec .rxAgg s = .fault (.lmfcCountRange .rx))
    ∧ (∀ (s : State) (lk : Link) (n : Nat) (l : RxLane) (r : Bool), s.link = some lk → s.cur.rx[n]? = some l → lk.opc ≤ l.alOff →
      ∀ i ∈ [Instr.alignerReset n r, .alignerLatch n, .alignerHold n, .cgsCheck n, .ilasStart n, .ilasChkReset n, .ilasChkStep n,
          .alignReplClear n, .deframerPass n, .descrReset n r, .descrStep n, .descrBypass n, .rxReceiveCgs n, .rxAssertSync n,
          .rxReceiveIlas n, .rxReceiveData n, .rxIlasErr n, .rxSyncLoss n],
        exec i s = .fault (.alignerOffsetRange n))
    ∧ (∀ (s : State) (lk : Link) (n : Nat) (l : TxLane), TxAt s lk n l → lk.len ≤ l.ilasIdx →
      ∀ i ∈ [Instr.ilasGenReset n, .ilasGenStep n, .txSendIlas n], exec i s = .fault (.ilasIndexRange n))
    ∧ ∀ (s : State) (lk : Link) (n : Nat) (l : RxLane), RxAt s lk n l → lk.len ≤ l.icIdx →
      ∀ i ∈ [Instr.ilasChkReset n, .ilasChkStep n, .rxReceiveIlas n, .rxIlasErr n, .rxSyncLoss n],
        exec i s = .fault (.ilasIndexRange n)

/-! ## The whole machine -/

/-- R321, R121: the machine right after reset. That words have four octets, and that one lane per engine stands before a link is built,
comes from the parameter values of log 4 and from L = 1 in settings of 0. -/
def Obligations.ResetState : Prop :=
  State.reset.cfg = Vector.replicate 14 0 ∧ State.reset.cur = State.reset.nxt ∧ State.reset.cur.txLmfc = ⟨0, false⟩
    ∧ State.reset.cur.rxLmfc = ⟨0, false⟩ ∧ State.reset.cur.agg = ⟨false, false⟩
    ∧ State.reset.cur.tx =
        [{ state := 0, ilasIdx := 0, scrState := 0x7F80, scrOut := [0, 0, 0, 0], scrValid := false, frCnt := 0, desyncCnt := 0,
           syncLoss := 0 }]
    ∧ State.reset.cur.rx =
        [{ state := 0, alPrev := List.replicate 4 ⟨false, 0⟩, alOff := 0, icIn := List.replicate 4 ⟨false, 0⟩, icIdx := 0,
           dscrState := 0x7F80, dscrOut := [0, 0, 0, 0], dscrValid := false, ilasErr := 0, syncLoss := 0 }]

/-- The invariant holds at reset. -/
def Obligations.InvariantHoldsAtReset : Prop := Inv State.reset

/-- Every step from a state with the invariant, whatever the environment presents, keeps it. -/
def Obligations.InvariantIsKept : Prop := ∀ s t : State, Inv s → step s = .next t → Inv t

/-- R81, R38, R40: a cycle is the simultaneous update. From a settled state in range, a fitting cycle of stimulus completes, every
register's new value is the rules' function of the registers of the start of the cycle and of the cycle's inputs, and so is every
output and signal of the cycle. -/
def Obligations.CycleIsTheSimultaneousUpdate : Prop :=
  ∀ (s : State) (lk : Link) (inp : CycleInputs) (rest : List Item), Inv s → s.link = some lk → s.program = .cycle inp :: rest →
    fits lk.opc lk.lanes inp = true →
    step s = .next { s with cur := regsAfter lk (seen inp s), nxt := regsAfter lk (seen inp s), inp := portsOf inp,
                            sig := sigIn lk (seen inp s), program := rest }

/-- R341: the order in which two components are evaluated within a cycle does not matter. -/
def Obligations.ComponentOrderDoesNotMatter : Prop :=
  ∀ (s : State) (lk : Link) (i j : Instance), Consistent s → s.link = some lk → i ∈ cycleInstances lk.opc lk.lanes →
    j ∈ cycleInstances lk.opc lk.lanes →
    andThen (runInstance i s) (runInstance j) = andThen (runInstance j s) (runInstance i)

/-- R330: after a successful `link_build` the engines never enter a fault state, however long they run. -/
def Obligations.RunningEnginesNeverStop : Prop :=
  ∀ (s : State) (lk : Link) (inps : List CycleInputs), Inv s → s.link = some lk → (∀ inp ∈ inps, fits lk.opc lk.lanes inp = true) →
    ∃ t, Host.Core.run Sys2Proof.core inps.length { s with program := inps.map Item.cycle } = .next t ∧ t.link = some lk

/-- R320, R321: a cycle with `rst` gives every register of that engine its reset value, whatever the other inputs say, and the outputs
of the `rst` cycle itself are those without `rst`. -/
def Obligations.RstResetsEveryRegister : Prop :=
  ∀ (s t : State) (lk : Link) (inp : CycleInputs) (rest : List Item), Inv s → s.link = some lk → s.program = .cycle inp :: rest →
    step s = .next t →
    let word := List.replicate lk.opc (0 : Octet)
    let symbols := List.replicate lk.opc (⟨false, 0⟩ : Sym)
    (inp.txRst = true → t.cur.txLmfc = ⟨0, false⟩ ∧ t.cur.tx.length = lk.lanes ∧ ∀ l ∈ t.cur.tx, l =
        { state := 0, ilasIdx := 0, scrState := 0x7F80, scrOut := word, scrValid := false, frCnt := 0, desyncCnt := 0, syncLoss := 0 })
      ∧ (inp.rxRst = true → t.cur.rxLmfc = ⟨0, false⟩ ∧ t.cur.agg = ⟨false, false⟩ ∧ t.cur.rx.length = lk.lanes ∧ ∀ l ∈ t.cur.rx, l =
        { state := 0, alPrev := symbols, alOff := 0, icIn := symbols, icIdx := 0, dscrState := 0x7F80, dscrOut := word,
          dscrValid := false, ilasErr := 0, syncLoss := 0 })
      ∧ ∀ (a b : Bool) (t' : State),
          step { s with program := .cycle { inp with txRst := a, rxRst := b } :: rest } = .next t' → t'.sig = t.sig

/-- R256: `resync` takes every FSM of the engine to its CGS state, and touches nothing else but the sync-loss counters: the other
registers after the cycle are those of the same cycle without the request. -/
def Obligations.ResyncTouchesStatesOnly : Prop :=
  ∀ (s t t' : State) (lk : Link) (inp : CycleInputs) (rest : List Item) (a b : Bool), Inv s → s.link = some lk →
    s.program = .cycle inp :: rest → step s = .next t →
    step { s with program := .cycle { inp with txResync := a, rxResync := b } :: rest } = .next t' →
    (inp.txResync = true → ∀ l ∈ t.cur.tx, l.state = 0) ∧ (inp.rxResync = true → ∀ l ∈ t.cur.rx, l.state = 0)
      ∧ t.cur.txLmfc = t'.cur.txLmfc ∧ t.cur.rxLmfc = t'.cur.rxLmfc ∧ t.cur.agg = t'.cur.agg ∧ t.cfg = t'.cfg ∧ t.link = t'.link
      ∧ t.cur.tx.map (fun l => { l with state := 0, syncLoss := 0 }) = t'.cur.tx.map (fun l => { l with state := 0, syncLoss := 0 })
      ∧ t.cur.rx.map (fun l => { l with state := 0, syncLoss := 0 }) = t'.cur.rx.map (fun l => { l with state := 0, syncLoss := 0 })

/-- R269, R302: a lane's registers after a cycle depend on that lane's registers and words, the engine's LMFC and the shared inputs alone:
two machines that agree on these agree on the lane, whatever their other lanes hold. -/
def Obligations.LanesAreIndependent : Prop :=
  ∀ (s s' t t' : State) (lk : Link) (inp inp' : CycleInputs) (rest rest' : List Item) (n : Nat), Inv s → Inv s' →
    s.link = some lk → s'.link = some lk → s.program = .cycle inp :: rest → s'.program = .cycle inp' :: rest' →
    step s = .next t → step s' = .next t' →
    (s.cur.tx[n]? = s'.cur.tx[n]? → s.cur.txLmfc = s'.cur.txLmfc → inp.txRst = inp'.txRst → inp.txResync = inp'.txResync →
        inp.jsync = inp'.jsync → inp.txIn[n]? = inp'.txIn[n]? → t.cur.tx[n]? = t'.cur.tx[n]?)
      ∧ (s.cur.rx[n]? = s'.cur.rx[n]? → s.cur.rxLmfc = s'.cur.rxLmfc → inp.rxRst = inp'.rxRst → inp.rxResync = inp'.rxResync →
        inp.rxIn[n]? = inp'.rxIn[n]? → t.cur.rx[n]? = t'.cur.rx[n]?)

/-- R156: with `jref` low and no `rst` a divider counts modulo C: `k` cycles later its count is `k` further. -/
def Obligations.LmfcRunsFreely : Prop :=
  ∀ (s t : State) (lk : Link) (inps : List CycleInputs), Inv s → s.link = some lk →
    Host.Core.run Sys2Proof.core inps.length { s with program := inps.map Item.cycle } = .next t →
    ((∀ inp ∈ inps, inp.txRst = false ∧ inp.txJref = false) →
        t.cur.txLmfc.count = (s.cur.txLmfc.count + inps.length) % lk.c)
      ∧ ((∀ inp ∈ inps, inp.rxRst = false ∧ inp.rxJref = false) →
        t.cur.rxLmfc.count = (s.cur.rxLmfc.count + inps.length) % lk.c)

/-- R232, R224, R228, R252, R262: from its first cycle one ILAS lasts exactly LEN = 4C cycles, if no `rst` or `resync` comes: before, the
lane stays there and its index counts the cycles; then a TX lane is in SEND_DATA and an RX lane in RECEIVE_DATA. With STRICT_ILAS the RX
half is for an ILAS that matches in every cycle. -/
def Obligations.IlasLastsFourMultiframes : Prop :=
  ∀ (s t : State) (lk : Link) (n : Nat) (inps : List CycleInputs), Inv s → s.link = some lk → inps.length ≤ 4 * lk.c →
    let go := fun k => Host.Core.run Sys2Proof.core k { s with program := inps.map Item.cycle }
    go inps.length = .next t →
    (∀ l l', s.cur.tx[n]? = some l → t.cur.tx[n]? = some l' → l.state = 1 → l.ilasIdx = 0 →
        (∀ inp ∈ inps, inp.txRst = false ∧ inp.txResync = false) →
        (inps.length < 4 * lk.c → l'.state = 1 ∧ l'.ilasIdx = inps.length) ∧ (inps.length = 4 * lk.c → l'.state = 2))
      ∧ ∀ l l', s.cur.rx[n]? = some l → t.cur.rx[n]? = some l' → l.state = 2 → l.icIdx = 0 →
        (∀ inp ∈ inps, inp.rxRst = false ∧ inp.rxResync = false) →
        (lk.params.strictIlas = true → ∀ k u x, k < inps.length → go k = .next u → u.cur.rx[n]? = some x → icMatches lk n x = true) →
        (inps.length < 4 * lk.c → l'.state = 2 ∧ l'.icIdx = inps.length) ∧ (inps.length = 4 * lk.c → l'.state = 3)

/-- R260, R261, R297: after a cycle in SEND_DATA without `rst`, the word the transmitter sends next is the scrambled `tx_in` (or `tx_in`
itself with SCR = 0); outside SEND_DATA `tx_in` is discarded; and outside RECEIVE_DATA the receiver's next output is 0 and not valid. -/
def Obligations.DataPathIsGatedByTheStates : Prop :=
  ∀ (s t : State) (lk : Link) (inp : CycleInputs) (rest : List Item) (n : Nat), Inv s → s.link = some lk →
    s.program = .cycle inp :: rest → step s = .next t →
    (∀ l l' x, s.cur.tx[n]? = some l → t.cur.tx[n]? = some l' → inp.txIn[n]? = some x →
        (l.state = 2 → inp.txRst = false →
            l'.scrValid = true ∧ l'.scrOut = if getField .SCR lk.cfg = 1 then (scramble l.scrState x).1 else x)
          ∧ (l.state ≠ 2 → l'.scrOut = List.replicate lk.opc 0 ∧ l'.scrState = 0x7F80 ∧ l'.frCnt = 0))
      ∧ ∀ l l', s.cur.rx[n]? = some l → t.cur.rx[n]? = some l' → l.state ≠ 3 →
          l'.dscrValid = false ∧ l'.dscrOut = List.replicate lk.opc 0

/-- A configuration operation that completes with a change of the settings leaves no built link, and one that only reads or raises
leaves link and settings as they were. That a write drops the link is the model's reading of R80 and R330 (log 9). -/
def Obligations.SettingsWritesDropTheBuiltLink : Prop :=
  ∀ (s t : State) (i : Instr), i.port = .cfgop → exec i s = .next t →
    (t.cfg ≠ s.cfg → t.link = none)
      ∧ (t.reply = .done → t.link = none ∧ ((∃ f v, i = .cfgSetField f v) ∨ i = .cfgRecompute ∨ ∃ b, i = .cfgDeserialize b))
      ∧ (t.reply ≠ .done → t.reply ≠ .built → t.cfg = s.cfg ∧ t.link = s.link)
end

