-- ==== Sys2Proof/Laws/State.lean ====
section
/-! SUPPORT. One lemma per field and update of State, so that no later proof unfolds a record update. -/

namespace Sys2Proof.Machine

open Sys2Proof

@[simp] theorem State.setTx_params (s : State) (n : Nat) (f : TxLane → TxLane) : (s.setTx n f).params = s.params := rfl
@[simp] theorem State.setTx_cfg (s : State) (n : Nat) (f : TxLane → TxLane) : (s.setTx n f).cfg = s.cfg := rfl
@[simp] theorem State.setTx_link (s : State) (n : Nat) (f : TxLane → TxLane) : (s.setTx n f).link = s.link := rfl
@[simp] theorem State.setTx_reply (s : State) (n : Nat) (f : TxLane → TxLane) : (s.setTx n f).reply = s.reply := rfl
@[simp] theorem State.setTx_cur (s : State) (n : Nat) (f : TxLane → TxLane) : (s.setTx n f).cur = s.cur := rfl
@[simp] theorem State.setTx_inp (s : State) (n : Nat) (f : TxLane → TxLane) : (s.setTx n f).inp = s.inp := rfl
@[simp] theorem State.setTx_sig (s : State) (n : Nat) (f : TxLane → TxLane) : (s.setTx n f).sig = s.sig := rfl
@[simp] theorem State.setTx_program (s : State) (n : Nat) (f : TxLane → TxLane) : (s.setTx n f).program = s.program := rfl
@[simp] theorem State.setTx_nxt_txLmfc (s : State) (n : Nat) (f : TxLane → TxLane) : (s.setTx n f).nxt.txLmfc = s.nxt.txLmfc := rfl
@[simp] theorem State.setTx_nxt_rxLmfc (s : State) (n : Nat) (f : TxLane → TxLane) : (s.setTx n f).nxt.rxLmfc = s.nxt.rxLmfc := rfl
@[simp] theorem State.setTx_nxt_tx (s : State) (n : Nat) (f : TxLane → TxLane) : (s.setTx n f).nxt.tx = s.nxt.tx.modify n f := rfl
@[simp] theorem State.setTx_nxt_rx (s : State) (n : Nat) (f : TxLane → TxLane) : (s.setTx n f).nxt.rx = s.nxt.rx := rfl
@[simp] theorem State.setTx_nxt_agg (s : State) (n : Nat) (f : TxLane → TxLane) : (s.setTx n f).nxt.agg = s.nxt.agg := rfl

@[simp] theorem State.setRx_params (s : State) (n : Nat) (f : RxLane → RxLane) : (s.setRx n f).params = s.params := rfl
@[simp] theorem State.setRx_cfg (s : State) (n : Nat) (f : RxLane → RxLane) : (s.setRx n f).cfg = s.cfg := rfl
@[simp] theorem State.setRx_link (s : State) (n : Nat) (f : RxLane → RxLane) : (s.setRx n f).link = s.link := rfl
@[simp] theorem State.setRx_reply (s : State) (n : Nat) (f : RxLane → RxLane) : (s.setRx n f).reply = s.reply := rfl
@[simp] theorem State.setRx_cur (s : State) (n : Nat) (f : RxLane → RxLane) : (s.setRx n f).cur = s.cur := rfl
@[simp] theorem State.setRx_inp (s : State) (n : Nat) (f : RxLane → RxLane) : (s.setRx n f).inp = s.inp := rfl
@[simp] theorem State.setRx_sig (s : State) (n : Nat) (f : RxLane → RxLane) : (s.setRx n f).sig = s.sig := rfl
@[simp] theorem State.setRx_program (s : State) (n : Nat) (f : RxLane → RxLane) : (s.setRx n f).program = s.program := rfl
@[simp] theorem State.setRx_nxt_txLmfc (s : State) (n : Nat) (f : RxLane → RxLane) : (s.setRx n f).nxt.txLmfc = s.nxt.txLmfc := rfl
@[simp] theorem State.setRx_nxt_rxLmfc (s : State) (n : Nat) (f : RxLane → RxLane) : (s.setRx n f).nxt.rxLmfc = s.nxt.rxLmfc := rfl
@[simp] theorem State.setRx_nxt_tx (s : State) (n : Nat) (f : RxLane → RxLane) : (s.setRx n f).nxt.tx = s.nxt.tx := rfl
@[simp] theorem State.setRx_nxt_rx (s : State) (n : Nat) (f : RxLane → RxLane) : (s.setRx n f).nxt.rx = s.nxt.rx.modify n f := rfl
@[simp] theorem State.setRx_nxt_agg (s : State) (n : Nat) (f : RxLane → RxLane) : (s.setRx n f).nxt.agg = s.nxt.agg := rfl

@[simp] theorem State.setAgg_params (s : State) (v : RxAgg) : (s.setAgg v).params = s.params := rfl
@[simp] theorem State.setAgg_cfg (s : State) (v : RxAgg) : (s.setAgg v).cfg = s.cfg := rfl
@[simp] theorem State.setAgg_link (s : State) (v : RxAgg) : (s.setAgg v).link = s.link := rfl
@[simp] theorem State.setAgg_reply (s : State) (v : RxAgg) : (s.setAgg v).reply = s.reply := rfl
@[simp] theorem State.setAgg_cur (s : State) (v : RxAgg) : (s.setAgg v).cur = s.cur := rfl
@[simp] theorem State.setAgg_inp (s : State) (v : RxAgg) : (s.setAgg v).inp = s.inp := rfl
@[simp] theorem State.setAgg_sig (s : State) (v : RxAgg) : (s.setAgg v).sig = s.sig := rfl
@[simp] theorem State.setAgg_program (s : State) (v : RxAgg) : (s.setAgg v).program = s.program := rfl
@[simp] theorem State.setAgg_nxt_txLmfc (s : State) (v : RxAgg) : (s.setAgg v).nxt.txLmfc = s.nxt.txLmfc := rfl
@[simp] theorem State.setAgg_nxt_rxLmfc (s : State) (v : RxAgg) : (s.setAgg v).nxt.rxLmfc = s.nxt.rxLmfc := rfl
@[simp] theorem State.setAgg_nxt_tx (s : State) (v : RxAgg) : (s.setAgg v).nxt.tx = s.nxt.tx := rfl
@[simp] theorem State.setAgg_nxt_rx (s : State) (v : RxAgg) : (s.setAgg v).nxt.rx = s.nxt.rx := rfl
@[simp] theorem State.setAgg_nxt_agg (s : State) (v : RxAgg) : (s.setAgg v).nxt.agg = v := rfl

@[simp] theorem State.driveTx_params (s : State) (n : Nat) (f : TxSig → TxSig) : (s.driveTx n f).params = s.params := rfl
@[simp] theorem State.driveTx_cfg (s : State) (n : Nat) (f : TxSig → TxSig) : (s.driveTx n f).cfg = s.cfg := rfl
@[simp] theorem State.driveTx_link (s : State) (n : Nat) (f : TxSig → TxSig) : (s.driveTx n f).link = s.link := rfl
@[simp] theorem State.driveTx_reply (s : State) (n : Nat) (f : TxSig → TxSig) : (s.driveTx n f).reply = s.reply := rfl
@[simp] theorem State.driveTx_cur (s : State) (n : Nat) (f : TxSig → TxSig) : (s.driveTx n f).cur = s.cur := rfl
@[simp] theorem State.driveTx_nxt (s : State) (n : Nat) (f : TxSig → TxSig) : (s.driveTx n f).nxt = s.nxt := rfl
@[simp] theorem State.driveTx_inp (s : State) (n : Nat) (f : TxSig → TxSig) : (s.driveTx n f).inp = s.inp := rfl
@[simp] theorem State.driveTx_program (s : State) (n : Nat) (f : TxSig → TxSig) : (s.driveTx n f).program = s.program := rfl
@[simp] theorem State.driveTx_sig_txLmfcZero (s : State) (n : Nat) (f : TxSig → TxSig) : (s.driveTx n f).sig.txLmfcZero = s.sig.txLmfcZero := rfl
@[simp] theorem State.driveTx_sig_txJrefRise (s : State) (n : Nat) (f : TxSig → TxSig) : (s.driveTx n f).sig.txJrefRise = s.sig.txJrefRise := rfl
@[simp] theorem State.driveTx_sig_rxLmfcZero (s : State) (n : Nat) (f : TxSig → TxSig) : (s.driveTx n f).sig.rxLmfcZero = s.sig.rxLmfcZero := rfl
@[simp] theorem State.driveTx_sig_rxJrefRise (s : State) (n : Nat) (f : TxSig → TxSig) : (s.driveTx n f).sig.rxJrefRise = s.sig.rxJrefRise := rfl
@[simp] theorem State.driveTx_sig_txReady (s : State) (n : Nat) (f : TxSig → TxSig) : (s.driveTx n f).sig.txReady = s.sig.txReady := rfl
@[simp] theorem State.driveTx_sig_tx (s : State) (n : Nat) (f : TxSig → TxSig) : (s.driveTx n f).sig.tx = s.sig.tx.modify n f := rfl
@[simp] theorem State.driveTx_sig_rx (s : State) (n : Nat) (f : TxSig → TxSig) : (s.driveTx n f).sig.rx = s.sig.rx := rfl

@[simp] theorem State.driveRx_params (s : State) (n : Nat) (f : RxSig → RxSig) : (s.driveRx n f).params = s.params := rfl
@[simp] theorem State.driveRx_cfg (s : State) (n : Nat) (f : RxSig → RxSig) : (s.driveRx n f).cfg = s.cfg := rfl
@[simp] theorem State.driveRx_link (s : State) (n : Nat) (f : RxSig → RxSig) : (s.driveRx n f).link = s.link := rfl
@[simp] theorem State.driveRx_reply (s : State) (n : Nat) (f : RxSig → RxSig) : (s.driveRx n f).reply = s.reply := rfl
@[simp] theorem State.driveRx_cur (s : State) (n : Nat) (f : RxSig → RxSig) : (s.driveRx n f).cur = s.cur := rfl
@[simp] theorem State.driveRx_nxt (s : State) (n : Nat) (f : RxSig → RxSig) : (s.driveRx n f).nxt = s.nxt := rfl
@[simp] theorem State.driveRx_inp (s : State) (n : Nat) (f : RxSig → RxSig) : (s.driveRx n f).inp = s.inp := rfl
@[simp] theorem State.driveRx_program (s : State) (n : Nat) (f : RxSig → RxSig) : (s.driveRx n f).program = s.program := rfl
@[simp] theorem State.driveRx_sig_txLmfcZero (s : State) (n : Nat) (f : RxSig → RxSig) : (s.driveRx n f).sig.txLmfcZero = s.sig.txLmfcZero := rfl
@[simp] theorem State.driveRx_sig_txJrefRise (s : State) (n : Nat) (f : RxSig → RxSig) : (s.driveRx n f).sig.txJrefRise = s.sig.txJrefRise := rfl
@[simp] theorem State.driveRx_sig_rxLmfcZero (s : State) (n : Nat) (f : RxSig → RxSig) : (s.driveRx n f).sig.rxLmfcZero = s.sig.rxLmfcZero := rfl
@[simp] theorem State.driveRx_sig_rxJrefRise (s : State) (n : Nat) (f : RxSig → RxSig) : (s.driveRx n f).sig.rxJrefRise = s.sig.rxJrefRise := rfl
@[simp] theorem State.driveRx_sig_txReady (s : State) (n : Nat) (f : RxSig → RxSig) : (s.driveRx n f).sig.txReady = s.sig.txReady := rfl
@[simp] theorem State.driveRx_sig_tx (s : State) (n : Nat) (f : RxSig → RxSig) : (s.driveRx n f).sig.tx = s.sig.tx := rfl
@[simp] theorem State.driveRx_sig_rx (s : State) (n : Nat) (f : RxSig → RxSig) : (s.driveRx n f).sig.rx = s.sig.rx.modify n f := rfl

@[simp] theorem State.setLmfc_params (s : State) (e : Engine) (v : Lmfc) : (s.setLmfc e v).params = s.params := by cases e <;> rfl
@[simp] theorem State.setLmfc_cfg (s : State) (e : Engine) (v : Lmfc) : (s.setLmfc e v).cfg = s.cfg := by cases e <;> rfl
@[simp] theorem State.setLmfc_link (s : State) (e : Engine) (v : Lmfc) : (s.setLmfc e v).link = s.link := by cases e <;> rfl
@[simp] theorem State.setLmfc_reply (s : State) (e : Engine) (v : Lmfc) : (s.setLmfc e v).reply = s.reply := by cases e <;> rfl
@[simp] theorem State.setLmfc_cur (s : State) (e : Engine) (v : Lmfc) : (s.setLmfc e v).cur = s.cur := by cases e <;> rfl
@[simp] theorem State.setLmfc_inp (s : State) (e : Engine) (v : Lmfc) : (s.setLmfc e v).inp = s.inp := by cases e <;> rfl
@[simp] theorem State.setLmfc_sig (s : State) (e : Engine) (v : Lmfc) : (s.setLmfc e v).sig = s.sig := by cases e <;> rfl
@[simp] theorem State.setLmfc_program (s : State) (e : Engine) (v : Lmfc) : (s.setLmfc e v).program = s.program := by cases e <;> rfl
@[simp] theorem State.setLmfc_nxt_tx (s : State) (e : Engine) (v : Lmfc) : (s.setLmfc e v).nxt.tx = s.nxt.tx := by cases e <;> rfl
@[simp] theorem State.setLmfc_nxt_rx (s : State) (e : Engine) (v : Lmfc) : (s.setLmfc e v).nxt.rx = s.nxt.rx := by cases e <;> rfl
@[simp] theorem State.setLmfc_nxt_agg (s : State) (e : Engine) (v : Lmfc) : (s.setLmfc e v).nxt.agg = s.nxt.agg := by cases e <;> rfl
@[simp] theorem State.setLmfc_tx_nxt_txLmfc (s : State) (v : Lmfc) : (s.setLmfc .tx v).nxt.txLmfc = v := rfl
@[simp] theorem State.setLmfc_tx_nxt_rxLmfc (s : State) (v : Lmfc) : (s.setLmfc .tx v).nxt.rxLmfc = s.nxt.rxLmfc := rfl
@[simp] theorem State.setLmfc_rx_nxt_txLmfc (s : State) (v : Lmfc) : (s.setLmfc .rx v).nxt.txLmfc = s.nxt.txLmfc := rfl
@[simp] theorem State.setLmfc_rx_nxt_rxLmfc (s : State) (v : Lmfc) : (s.setLmfc .rx v).nxt.rxLmfc = v := rfl

@[simp] theorem State.driveLmfc_params (s : State) (e : Engine) : (s.driveLmfc e).params = s.params := by cases e <;> rfl
@[simp] theorem State.driveLmfc_cfg (s : State) (e : Engine) : (s.driveLmfc e).cfg = s.cfg := by cases e <;> rfl
@[simp] theorem State.driveLmfc_link (s : State) (e : Engine) : (s.driveLmfc e).link = s.link := by cases e <;> rfl
@[simp] theorem State.driveLmfc_reply (s : State) (e : Engine) : (s.driveLmfc e).reply = s.reply := by cases e <;> rfl
@[simp] theorem State.driveLmfc_cur (s : State) (e : Engine) : (s.driveLmfc e).cur = s.cur := by cases e <;> rfl
@[simp] theorem State.driveLmfc_nxt (s : State) (e : Engine) : (s.driveLmfc e).nxt = s.nxt := by cases e <;> rfl
@[simp] theorem State.driveLmfc_inp (s : State) (e : Engine) : (s.driveLmfc e).inp = s.inp := by cases e <;> rfl
@[simp] theorem State.driveLmfc_program (s : State) (e : Engine) : (s.driveLmfc e).program = s.program := by cases e <;> rfl
@[simp] theorem State.driveLmfc_sig_txReady (s : State) (e : Engine) : (s.driveLmfc e).sig.txReady = s.sig.txReady := by cases e <;> rfl
@[simp] theorem State.driveLmfc_sig_tx (s : State) (e : Engine) : (s.driveLmfc e).sig.tx = s.sig.tx := by cases e <;> rfl
@[simp] theorem State.driveLmfc_sig_rx (s : State) (e : Engine) : (s.driveLmfc e).sig.rx = s.sig.rx := by cases e <;> rfl

@[simp] theorem clockEdge_params (s : State) : (clockEdge s).params = s.params := rfl
@[simp] theorem clockEdge_cfg (s : State) : (clockEdge s).cfg = s.cfg := rfl
@[simp] theorem clockEdge_link (s : State) : (clockEdge s).link = s.link := rfl
@[simp] theorem clockEdge_reply (s : State) : (clockEdge s).reply = s.reply := rfl
@[simp] theorem clockEdge_cur (s : State) : (clockEdge s).cur = s.nxt := rfl
@[simp] theorem clockEdge_nxt (s : State) : (clockEdge s).nxt = s.nxt := rfl
@[simp] theorem clockEdge_inp (s : State) : (clockEdge s).inp = s.inp := rfl
@[simp] theorem clockEdge_sig (s : State) : (clockEdge s).sig = s.sig := rfl
@[simp] theorem clockEdge_program (s : State) : (clockEdge s).program = s.program := rfl

@[simp] theorem changeSettings_params (c : Settings) (s : State) : (changeSettings c s).params = s.params := rfl
@[simp] theorem changeSettings_cfg (c : Settings) (s : State) : (changeSettings c s).cfg = c := rfl
@[simp] theorem changeSettings_link (c : Settings) (s : State) : (changeSettings c s).link = none := rfl
@[simp] theorem changeSettings_reply (c : Settings) (s : State) : (changeSettings c s).reply = .done := rfl
@[simp] theorem changeSettings_cur (c : Settings) (s : State) : (changeSettings c s).cur = s.cur := rfl
@[simp] theorem changeSettings_nxt (c : Settings) (s : State) : (changeSettings c s).nxt = s.nxt := rfl
@[simp] theorem changeSettings_inp (c : Settings) (s : State) : (changeSettings c s).inp = s.inp := rfl
@[simp] theorem changeSettings_sig (c : Settings) (s : State) : (changeSettings c s).sig = s.sig := rfl
@[simp] theorem changeSettings_program (c : Settings) (s : State) : (changeSettings c s).program = s.program := rfl

@[simp] theorem instantiate_params (lk : Link) (s : State) : (instantiate lk s).params = s.params := rfl
@[simp] theorem instantiate_cfg (lk : Link) (s : State) : (instantiate lk s).cfg = s.cfg := rfl
@[simp] theorem instantiate_link (lk : Link) (s : State) : (instantiate lk s).link = some lk := rfl
@[simp] theorem instantiate_reply (lk : Link) (s : State) : (instantiate lk s).reply = s.reply := rfl
@[simp] theorem instantiate_cur (lk : Link) (s : State) : (instantiate lk s).cur = Regs.reset lk.opc lk.lanes := rfl
@[simp] theorem instantiate_nxt (lk : Link) (s : State) : (instantiate lk s).nxt = Regs.reset lk.opc lk.lanes := rfl
@[simp] theorem instantiate_inp (lk : Link) (s : State) : (instantiate lk s).inp = Inputs.idle lk.opc lk.lanes := rfl
@[simp] theorem instantiate_sig (lk : Link) (s : State) : (instantiate lk s).sig = Sig.idle lk.opc lk.lanes := rfl
@[simp] theorem instantiate_program (lk : Link) (s : State) : (instantiate lk s).program = s.program := rfl

@[simp] theorem applyInputs_params (inp : CycleInputs) (s : State) : (applyInputs inp s).params = s.params := rfl
@[simp] theorem applyInputs_cfg (inp : CycleInputs) (s : State) : (applyInputs inp s).cfg = s.cfg := rfl
@[simp] theorem applyInputs_link (inp : CycleInputs) (s : State) : (applyInputs inp s).link = s.link := rfl
@[simp] theorem applyInputs_reply (inp : CycleInputs) (s : State) : (applyInputs inp s).reply = s.reply := rfl
@[simp] theorem applyInputs_cur (inp : CycleInputs) (s : State) : (applyInputs inp s).cur = s.cur := rfl
@[simp] theorem applyInputs_nxt (inp : CycleInputs) (s : State) : (applyInputs inp s).nxt = s.nxt := rfl
@[simp] theorem applyInputs_sig (inp : CycleInputs) (s : State) : (applyInputs inp s).sig = s.sig := rfl
@[simp] theorem applyInputs_program (inp : CycleInputs) (s : State) : (applyInputs inp s).program = s.program := rfl

@[simp] theorem seen_params (inp : CycleInputs) (s : State) : (seen inp s).params = s.params := rfl
@[simp] theorem seen_cfg (inp : CycleInputs) (s : State) : (seen inp s).cfg = s.cfg := rfl
@[simp] theorem seen_link (inp : CycleInputs) (s : State) : (seen inp s).link = s.link := rfl
@[simp] theorem seen_reply (inp : CycleInputs) (s : State) : (seen inp s).reply = s.reply := rfl
@[simp] theorem seen_cur (inp : CycleInputs) (s : State) : (seen inp s).cur = s.cur := rfl
@[simp] theorem seen_nxt (inp : CycleInputs) (s : State) : (seen inp s).nxt = s.nxt := rfl
@[simp] theorem seen_inp (inp : CycleInputs) (s : State) : (seen inp s).inp = portsOf inp := rfl
@[simp] theorem seen_sig (inp : CycleInputs) (s : State) : (seen inp s).sig = s.sig := rfl
@[simp] theorem seen_program (inp : CycleInputs) (s : State) : (seen inp s).program = s.program := rfl

end Sys2Proof.Machine
end

