-- ==== Sys2Proof/Laws/Ops.lean ====
section
/-! SUPPORT. What each shared operation can do, said once: the guards of Machine/Ops.lean (when they go on, and what follows when
they answer a next state), the frames of the lane writes, and the 14-octet form of the settings register. -/

namespace Sys2Proof.Machine

open Sys2Proof

/-! ## Guards -/

@[simp] theorem andThen_next_left (s : State) (k : State → Out) : andThen (.next s) k = k s := rfl
@[simp] theorem andThen_fault_left (r : Fault) (k : State → Out) : andThen (.fault r) k = .fault r := rfl
@[simp] theorem andThen_refused_left (r : Refusal) (k : State → Out) : andThen (.refused r) k = .refused r := rfl

/-- A sequence answers a next state exactly when both parts do. -/
theorem andThen_eq_next {o : Out} {k : State → Out} {t : State} : andThen o k = .next t ↔ ∃ u, o = .next u ∧ k u = .next t := by
  cases o <;> simp [andThen]

theorem withLink_some {s : State} {lk : Link} (h : s.link = some lk) (k : Link → Out) : withLink s k = k lk := by
  simp [withLink, h]

theorem withLink_none {s : State} (h : s.link = none) (k : Link → Out) : withLink s k = .refused .linkNotBuilt := by
  simp [withLink, h]

theorem withLink_next {s t : State} {k : Link → Out} (h : withLink s k = .next t) : ∃ lk, s.link = some lk ∧ k lk = .next t := by
  cases hl : s.link with
  | none => simp [withLink, hl] at h
  | some lk => exact ⟨lk, rfl, by simpa [withLink, hl] using h⟩

theorem withTxLane_some {s : State} {lk : Link} {n : Nat} {l : TxLane} (h : s.link = some lk) (hn : s.cur.tx[n]? = some l)
    (k : Link → TxLane → Out) : withTxLane n s k = k lk l := by
  simp [withTxLane, withLink, h, hn]

theorem withTxLane_next {s t : State} {n : Nat} {k : Link → TxLane → Out} (h : withTxLane n s k = .next t) :
    ∃ lk l, s.link = some lk ∧ s.cur.tx[n]? = some l ∧ k lk l = .next t := by
  obtain ⟨lk, hl, h⟩ := withLink_next h
  cases hn : s.cur.tx[n]? with
  | none => simp [hn] at h
  | some l => exact ⟨lk, l, hl, rfl, by simpa [hn] using h⟩

theorem withRxLane_some {s : State} {lk : Link} {n : Nat} {l : RxLane} (h : s.link = some lk) (hn : s.cur.rx[n]? = some l)
    (k : Link → RxLane → Out) : withRxLane n s k = k lk l := by
  simp [withRxLane, withLink, h, hn]

theorem withRxLane_next {s t : State} {n : Nat} {k : Link → RxLane → Out} (h : withRxLane n s k = .next t) :
    ∃ lk l, s.link = some lk ∧ s.cur.rx[n]? = some l ∧ k lk l = .next t := by
  obtain ⟨lk, hl, h⟩ := withLink_next h
  cases hn : s.cur.rx[n]? with
  | none => simp [hn] at h
  | some l => exact ⟨lk, l, hl, rfl, by simpa [hn] using h⟩

theorem withTx_at {s : State} {lk : Link} {n : Nat} {l : TxLane} (h : TxAt s lk n l) (k : Link → TxLane → Out) :
    withTx n s k = k lk l := by
  rw [withTx, withTxLane_some h.1 h.2.1, if_neg h.2.2]

/-- A TX lane that holds the code 11 faults in every operation. -/
theorem withTx_illegal {s : State} {lk : Link} {n : Nat} {l : TxLane} (h : s.link = some lk) (hn : s.cur.tx[n]? = some l)
    (h3 : l.state = 3) (k : Link → TxLane → Out) : withTx n s k = .fault (.txStateIllegal n) := by
  simp [withTx, withTxLane_some h hn, h3]

theorem withTx_next {s t : State} {n : Nat} {k : Link → TxLane → Out} (h : withTx n s k = .next t) :
    ∃ lk l, TxAt s lk n l ∧ k lk l = .next t := by
  obtain ⟨lk, l, hl, hn, h⟩ := withTxLane_next h
  split at h
  · cases h
  · exact ⟨lk, l, ⟨hl, hn, ‹_›⟩, h⟩

theorem withRx_at {s : State} {lk : Link} {n : Nat} {l : RxLane} (h : RxAt s lk n l) (k : Link → RxLane → Out) :
    withRx n s k = k lk l := by
  simp [withRx, withRxLane_some h.1 h.2.1, h.2.2]

/-- An RX lane whose offset is outside the word faults in every operation. -/
theorem withRx_illegal {s : State} {lk : Link} {n : Nat} {l : RxLane} (h : s.link = some lk) (hn : s.cur.rx[n]? = some l)
    (h3 : lk.opc ≤ l.alOff) (k : Link → RxLane → Out) : withRx n s k = .fault (.alignerOffsetRange n) := by
  simp [withRx, withRxLane_some h hn, Nat.not_lt.mpr h3]

theorem withRx_next {s t : State} {n : Nat} {k : Link → RxLane → Out} (h : withRx n s k = .next t) :
    ∃ lk l, RxAt s lk n l ∧ k lk l = .next t := by
  obtain ⟨lk, l, hl, hn, h⟩ := withRxLane_next h
  split at h
  · exact ⟨lk, l, ⟨hl, hn, ‹_›⟩, h⟩
  · cases h

theorem withAligned_at {s : State} {lk : Link} {n : Nat} {l : RxLane} (h : RxAt s lk n l) (k : Link → RxLane → LinkWord → Out) :
    withAligned n s k = k lk l (alignedWord lk s n l) := withRx_at h _

theorem withAligned_next {s t : State} {n : Nat} {k : Link → RxLane → LinkWord → Out} (h : withAligned n s k = .next t) :
    ∃ lk l, RxAt s lk n l ∧ k lk l (alignedWord lk s n l) = .next t := withRx_next h

theorem withCount_ok {s : State} {lk : Link} {e : Engine} (h : (s.lmfc e).count < lk.c) (o : Out) : withCount e lk s o = o := by
  simp [withCount, h]

theorem withCount_illegal {s : State} {lk : Link} {e : Engine} (h : lk.c ≤ (s.lmfc e).count) (o : Out) :
    withCount e lk s o = .fault (.lmfcCountRange e) := by
  simp [withCount, Nat.not_lt.mpr h]

theorem withCount_next {s t : State} {lk : Link} {e : Engine} {o : Out} (h : withCount e lk s o = .next t) :
    (s.lmfc e).count < lk.c ∧ o = .next t := by
  unfold withCount at h
  split at h
  · exact ⟨‹_›, h⟩
  · cases h

theorem withLmfc_at {s : State} {lk : Link} {e : Engine} (h : s.link = some lk) (hc : (s.lmfc e).count < lk.c)
    (k : Link → Lmfc → Out) : withLmfc e s k = k lk (s.lmfc e) := by
  simp [withLmfc, withLink_some h, withCount_ok hc]

theorem withLmfc_next {s t : State} {e : Engine} {k : Link → Lmfc → Out} (h : withLmfc e s k = .next t) :
    ∃ lk, s.link = some lk ∧ (s.lmfc e).count < lk.c ∧ k lk (s.lmfc e) = .next t := by
  obtain ⟨lk, hl, h⟩ := withLink_next h
  exact ⟨lk, hl, withCount_next h⟩

/-- With every TX lane in one of the three states the operation goes on. -/
theorem withTxStates_ok {s : State} (h : ∀ l ∈ s.cur.tx, l.state ≠ 3) (o : Out) : withTxStates s o = o := by
  have : s.cur.tx.findIdx? (fun l => l.state == 3) = none := by simpa using h
  rw [withTxStates, this]

theorem withTxStates_next {s t : State} {o : Out} (h : withTxStates s o = .next t) : (∀ l ∈ s.cur.tx, l.state ≠ 3) ∧ o = .next t := by
  unfold withTxStates at h
  split at h
  · cases h
  · rename_i hn
    exact ⟨by simpa using hn, h⟩

theorem withEntry_next {n i : Nat} {lk : Link} {k : LinkWord → Out} {t : State} (h : withEntry n i lk k = .next t) :
    ∃ w, memReadIlas lk n i = some w ∧ k w = .next t := by
  cases hw : memReadIlas lk n i with
  | none => simp [withEntry, hw] at h
  | some w => exact ⟨w, rfl, by simpa [withEntry, hw] using h⟩

theorem withEntry_some {n i : Nat} {lk : Link} {w : LinkWord} (h : memReadIlas lk n i = some w) (k : LinkWord → Out) :
    withEntry n i lk k = k w := by simp [withEntry, h]

theorem withSlot_next {j : Nat} {lk : Link} {o : Out} {t : State} (h : withSlot j lk o = .next t) : j < lk.opc ∧ o = .next t := by
  unfold withSlot at h
  split at h
  · exact ⟨‹_›, h⟩
  · cases h

/-! ## Frames of the lane writes -/

/-- A write of TX lane `n`'s registers and signals leaves all else. -/
theorem onlyTx_write (s : State) (n : Nat) (f : TxLane → TxLane) (g : TxSig → TxSig) : OnlyTx n s ((s.driveTx n g).setTx n f) := by
  refine ⟨rfl, fun m hm => ⟨?_, ?_⟩⟩ <;> simp [Ne.symm hm]

/-- A write of RX lane `n`'s registers and signals leaves all else. -/
theorem onlyRx_write (s : State) (n : Nat) (f : RxLane → RxLane) (g : RxSig → RxSig) : OnlyRx n s ((s.driveRx n g).setRx n f) := by
  refine ⟨rfl, fun m hm => ⟨?_, ?_⟩⟩ <;> simp [Ne.symm hm]

theorem onlyTx_set (s : State) (n : Nat) (f : TxLane → TxLane) : OnlyTx n s (s.setTx n f) := by
  refine ⟨rfl, fun m hm => ⟨?_, ?_⟩⟩ <;> simp [Ne.symm hm]

theorem onlyTx_drive (s : State) (n : Nat) (g : TxSig → TxSig) : OnlyTx n s (s.driveTx n g) := by
  refine ⟨rfl, fun m hm => ⟨?_, ?_⟩⟩ <;> simp [Ne.symm hm]

theorem onlyRx_set (s : State) (n : Nat) (f : RxLane → RxLane) : OnlyRx n s (s.setRx n f) := by
  refine ⟨rfl, fun m hm => ⟨?_, ?_⟩⟩ <;> simp [Ne.symm hm]

theorem onlyRx_drive (s : State) (n : Nat) (g : RxSig → RxSig) : OnlyRx n s (s.driveRx n g) := by
  refine ⟨rfl, fun m hm => ⟨?_, ?_⟩⟩ <;> simp [Ne.symm hm]

theorem txRuns_write (s : State) (n : Nat) (f : TxLane → TxLane) (g : TxSig → TxSig) :
    TxRuns (.next ((s.driveTx n g).setTx n f)) n s f g := ⟨_, rfl, onlyTx_write s n f g, by simp, by simp⟩

theorem txRuns_set (s : State) (n : Nat) (f : TxLane → TxLane) : TxRuns (.next (s.setTx n f)) n s f id :=
  ⟨_, rfl, onlyTx_set s n f, by simp, by simp⟩

theorem txRuns_drive (s : State) (n : Nat) (g : TxSig → TxSig) : TxRuns (.next (s.driveTx n g)) n s id g :=
  ⟨_, rfl, onlyTx_drive s n g, by simp, by simp⟩

theorem rxRuns_write (s : State) (n : Nat) (f : RxLane → RxLane) (g : RxSig → RxSig) :
    RxRuns (.next ((s.driveRx n g).setRx n f)) n s f g := ⟨_, rfl, onlyRx_write s n f g, by simp, by simp⟩

theorem rxRuns_set (s : State) (n : Nat) (f : RxLane → RxLane) : RxRuns (.next (s.setRx n f)) n s f id :=
  ⟨_, rfl, onlyRx_set s n f, by simp, by simp⟩

theorem rxRuns_drive (s : State) (n : Nat) (g : RxSig → RxSig) : RxRuns (.next (s.driveRx n g)) n s id g :=
  ⟨_, rfl, onlyRx_drive s n g, by simp, by simp⟩

theorem TxRuns.congr {o : Out} {n : Nat} {s : State} {f f' : TxLane → TxLane} {g g' : TxSig → TxSig} (h : TxRuns o n s f g)
    (hf : f = f') (hg : g = g') : TxRuns o n s f' g' := by subst hf hg; exact h

theorem RxRuns.congr {o : Out} {n : Nat} {s : State} {f f' : RxLane → RxLane} {g g' : RxSig → RxSig} (h : RxRuns o n s f g)
    (hf : f = f') (hg : g = g') : RxRuns o n s f' g' := by subst hf hg; exact h

/-! ## The components of a cycle: the select word, and the operation it names -/

/-- A TX lane's component runs the operation its select word names. -/
theorem runInstance_tx {s : State} {lk : Link} {n : Nat} {l : TxLane} (h : s.link = some lk) (hn : s.cur.tx[n]? = some l) {p : Port}
    (j : Nat)
    (hp : p = .txDesync ∨ p = .framer ∨ p = .scr ∨ p = .cgsGen ∨ p = .ilasGen ∨ p = .alignIns ∨ p = .txFsm ∨ p = .txSyncLoss) :
    runInstance ⟨p, n, j⟩ s = runSel p (txSel lk s l ⟨p, n, j⟩) n j s := by
  rcases hp with rfl | rfl | rfl | rfl | rfl | rfl | rfl | rfl <;> simp [runInstance, withLink_some h, withTxLane_some h hn]

/-- An RX lane's component runs the operation its select word names. -/
theorem runInstance_rx {s : State} {lk : Link} {n : Nat} {l : RxLane} (h : s.link = some lk) (hn : s.cur.rx[n]? = some l) {p : Port}
    (j : Nat)
    (hp : p = .aligner ∨ p = .cgsCheck ∨ p = .ilasStart ∨ p = .ilasChk ∨ p = .alignRepl ∨ p = .deframer ∨ p = .descr ∨ p = .rxFsm
      ∨ p = .rxIlasErr ∨ p = .rxSyncLoss) :
    runInstance ⟨p, n, j⟩ s = runSel p (rxSel lk s l ⟨p, n, j⟩) n j s := by
  rcases hp with rfl | rfl | rfl | rfl | rfl | rfl | rfl | rfl | rfl | rfl <;>
    simp [runInstance, withLink_some h, withRxLane_some h hn]

/-- A select word that names an operation runs it. -/
theorem runSel_ok {p : Port} {sel n j : Nat} {i : Instr} (h : decodeSel p sel n j = .ok i) (s : State) :
    runSel p sel n j s = exec i s := by simp [runSel, h]

/-! ## Reads and writes of the settings register (20_memory.md R73) -/

/-- A read after a write to the same octet gives the octet written. -/
@[simp] theorem memReadCfg_write_same (c : Settings) (a : Fin 14) (v : Octet) : memReadCfg (memWriteCfg c a v) a = v := by
  simp [memReadCfg, memWriteCfg, Vector.get_eq_getElem]

/-- A write leaves every other octet. -/
theorem memReadCfg_write_other {a b : Fin 14} (h : a ≠ b) (c : Settings) (v : Octet) :
    memReadCfg (memWriteCfg c a v) b = memReadCfg c b := by
  have : a.val ≠ b.val := fun e => h (Fin.ext e)
  simp [memReadCfg, memWriteCfg, Vector.get_eq_getElem, this]

/-- Settings whose octets agree are equal. -/
theorem settings_ext {c d : Settings} (h : ∀ a, memReadCfg c a = memReadCfg d a) : c = d := by
  refine Vector.ext fun i hi => ?_
  simpa [memReadCfg, Vector.get_eq_getElem] using h ⟨i, hi⟩

/-- What `deserialize` accepts, and the octets it then gives. -/
theorem deserialize_ok {m : ChecksumMode} {b : List Nat} {c : Settings} (h : deserialize m b = .ok c) :
    (b.length = 14 ∧ ∀ x ∈ b, x < 256) ∧ c.toList = b.map (BitVec.ofNat 8) ∧ checksum m c = memReadCfg c 13 := by
  unfold deserialize at h
  split at h
  · rename_i hb
    simp only at h
    split at h
    · cases h
    · cases h
      exact ⟨hb, by simp [Vector.toList], by simp_all⟩
  · cases h

/-! ## A built link holds what `link_build` was given (41_link_settings.md R134, R136) -/

theorem linkBuild_params_cfg {p : Params} {c : Settings} {lk : Link} (h : linkBuild p c = .ok lk) : lk.params = p ∧ lk.cfg = c := by
  simp only [linkBuild] at h
  repeat' (split at h)
  all_goals first | contradiction | (cases h; exact ⟨rfl, rfl⟩)

end Sys2Proof.Machine
end

