-- ==== Sys2Proof/Laws/PerInstr.lean ====
section
/-! SUPPORT. The per-instruction family SelWord: the select word of a well-formed operation names that operation on its own port and
instance (30_encoding.md R103); a configuration operation's number has 3 bits (R106). -/

namespace Sys2Proof.Laws

open Sys2Proof

/-- The lane (on the LMFC port: the engine's number) an operation acts on. -/
def laneOf : Instr → Nat
  | .symR n _ | .symA n _ | .symQ n _ | .symK n _ | .symF n _ | .symData n _ _ | .symReserved n _ _ => n
  | .txSendCgs n | .txSendIlas n | .txSendData n | .txIllegal n => n
  | .rxReceiveCgs n | .rxAssertSync n | .rxReceiveIlas n | .rxReceiveData n => n
  | .lmfcReset e _ | .lmfcLoad e | .lmfcCount e => e.num
  | .scrReset n _ | .scrStep n | .scrBypass n | .descrReset n _ | .descrStep n | .descrBypass n => n
  | .framerReset n | .framerStep n | .alignInsA n _ _ _ | .alignInsF n _ _ | .alignInsPass n _ _ => n
  | .alignReplClear n | .deframerPass n | .alignerReset n _ | .alignerLatch n | .alignerHold n => n
  | .cgsGen n | .cgsCheck n | .ilasGenReset n | .ilasGenStep n | .ilasChkReset n | .ilasChkStep n | .ilasStart n => n
  | .txDesync n | .txSyncLoss n | .rxIlasErr n | .rxSyncLoss n => n
  | .txAgg | .rxAgg => 0
  | .cfgSetField _ _ | .cfgGetField _ | .cfgRecompute | .cfgSerialize | .cfgDeserialize _ | .cfgLinkBuild | .cfgReserved _ => 0

/-- The slot an operation acts on, 0 where it names none. -/
def slotOf : Instr → Nat
  | .symR _ j | .symA _ j | .symQ _ j | .symK _ j | .symF _ j | .symData _ j _ | .symReserved _ j _ => j
  | .alignInsA _ j _ _ | .alignInsF _ j _ | .alignInsPass _ j _ => j
  | .txSendCgs _ | .txSendIlas _ | .txSendData _ | .txIllegal _ => 0
  | .rxReceiveCgs _ | .rxAssertSync _ | .rxReceiveIlas _ | .rxReceiveData _ => 0
  | .lmfcReset _ _ | .lmfcLoad _ | .lmfcCount _ => 0
  | .scrReset _ _ | .scrStep _ | .scrBypass _ | .descrReset _ _ | .descrStep _ | .descrBypass _ => 0
  | .framerReset _ | .framerStep _ | .alignReplClear _ | .deframerPass _ => 0
  | .alignerReset _ _ | .alignerLatch _ | .alignerHold _ => 0
  | .cgsGen _ | .cgsCheck _ | .ilasGenReset _ | .ilasGenStep _ | .ilasChkReset _ | .ilasChkStep _ | .ilasStart _ => 0
  | .txDesync _ | .txSyncLoss _ | .rxIlasErr _ | .rxSyncLoss _ | .txAgg | .rxAgg => 0
  | .cfgSetField _ _ | .cfgGetField _ | .cfgRecompute | .cfgSerialize | .cfgDeserialize _ | .cfgLinkBuild | .cfgReserved _ => 0

/-- The select word names the operation. -/
def SelWord.Statement (i : Instr) : Prop :=
  i.wf = true → (i.port = .cfgop ∧ i.sel < 8) ∨ decodeSel i.port i.sel (laneOf i) (slotOf i) = .ok i

theorem SelWord.symR (lane slot : Nat) : SelWord.Statement (.symR lane slot) := by
  intro _; right; simp [decodeSel, Instr.port, Instr.sel, laneOf, slotOf, decodeSym, charR, kChar]

theorem SelWord.symA (lane slot : Nat) : SelWord.Statement (.symA lane slot) := by
  intro _; right; simp [decodeSel, Instr.port, Instr.sel, laneOf, slotOf, decodeSym, charR, charA, kChar]

theorem SelWord.symQ (lane slot : Nat) : SelWord.Statement (.symQ lane slot) := by
  intro _; right; simp [decodeSel, Instr.port, Instr.sel, laneOf, slotOf, decodeSym, charR, charA, charQ, kChar]

theorem SelWord.symK (lane slot : Nat) : SelWord.Statement (.symK lane slot) := by
  intro _; right; simp [decodeSel, Instr.port, Instr.sel, laneOf, slotOf, decodeSym, charR, charA, charQ, charK, kChar]

theorem SelWord.symF (lane slot : Nat) : SelWord.Statement (.symF lane slot) := by
  intro _; right; simp [decodeSel, Instr.port, Instr.sel, laneOf, slotOf, decodeSym, charR, charA, charQ, charK, charF, kChar]

theorem SelWord.symData (lane slot : Nat) (d : Octet) : SelWord.Statement (.symData lane slot d) := by
  intro _; right
  have h : d.toNat < 256 := d.isLt
  simp [decodeSel, Instr.port, Instr.sel, laneOf, slotOf, decodeSym, show d.toNat < 512 by omega, show ¬ 256 ≤ d.toNat by omega]

theorem SelWord.symReserved (lane slot : Nat) (d : Octet) : SelWord.Statement (.symReserved lane slot d) := by
  intro hw; right
  have h : d.toNat < 256 := d.isLt
  have hd : BitVec.ofNat 8 (256 + d.toNat) = d := by
    apply BitVec.eq_of_toNat_eq; rw [BitVec.toNat_ofNat]; omega
  have hn : namedControl d = false := by simpa [Instr.wf] using (Bool.and_eq_true_iff.mp hw).2
  simp only [namedControl, Bool.or_eq_false_iff, beq_eq_false_iff_ne] at hn
  obtain ⟨⟨⟨⟨h0, h3⟩, h4⟩, h5⟩, h7⟩ := hn
  simp only [decodeSel, Instr.port, Instr.sel, laneOf, slotOf, hd, show 256 + d.toNat < 512 by omega, if_true, decodeSym,
    Nat.le_add_right, decide_true, Bool.true_eq_false, if_false]
  have e : charR = 28 ∧ charA = 124 ∧ charQ = 156 ∧ charK = 188 ∧ charF = 252 := by decide
  rw [e.1, e.2.1, e.2.2.1, e.2.2.2.1, e.2.2.2.2, if_neg h0, if_neg h3, if_neg h4, if_neg h5, if_neg h7]

theorem SelWord.txSendCgs (lane : Nat) : SelWord.Statement (.txSendCgs lane) := by
  intro _; exact .inr rfl

theorem SelWord.txSendIlas (lane : Nat) : SelWord.Statement (.txSendIlas lane) := by
  intro _; exact .inr rfl

theorem SelWord.txSendData (lane : Nat) : SelWord.Statement (.txSendData lane) := by
  intro _; exact .inr rfl

theorem SelWord.txIllegal (lane : Nat) : SelWord.Statement (.txIllegal lane) := by
  intro _; exact .inr rfl

theorem SelWord.rxReceiveCgs (lane : Nat) : SelWord.Statement (.rxReceiveCgs lane) := by
  intro _; exact .inr rfl

theorem SelWord.rxAssertSync (lane : Nat) : SelWord.Statement (.rxAssertSync lane) := by
  intro _; exact .inr rfl

theorem SelWord.rxReceiveIlas (lane : Nat) : SelWord.Statement (.rxReceiveIlas lane) := by
  intro _; exact .inr rfl

theorem SelWord.rxReceiveData (lane : Nat) : SelWord.Statement (.rxReceiveData lane) := by
  intro _; exact .inr rfl

theorem SelWord.lmfcReset (e : Engine) (jrefRise : Bool) : SelWord.Statement (.lmfcReset e jrefRise) := by
  intro _; right; cases e <;> cases jrefRise <;> rfl

theorem SelWord.lmfcLoad (e : Engine) : SelWord.Statement (.lmfcLoad e) := by
  intro _; right; cases e <;> rfl

theorem SelWord.lmfcCount (e : Engine) : SelWord.Statement (.lmfcCount e) := by
  intro _; right; cases e <;> rfl

theorem SelWord.scrReset (lane : Nat) (scr : Bool) : SelWord.Statement (.scrReset lane scr) := by
  intro _; right; cases scr <;> rfl

theorem SelWord.scrStep (lane : Nat) : SelWord.Statement (.scrStep lane) := by
  intro _; exact .inr rfl

theorem SelWord.scrBypass (lane : Nat) : SelWord.Statement (.scrBypass lane) := by
  intro _; exact .inr rfl

theorem SelWord.descrReset (lane : Nat) (scr : Bool) : SelWord.Statement (.descrReset lane scr) := by
  intro _; right; cases scr <;> rfl

theorem SelWord.descrStep (lane : Nat) : SelWord.Statement (.descrStep lane) := by
  intro _; exact .inr rfl

theorem SelWord.descrBypass (lane : Nat) : SelWord.Statement (.descrBypass lane) := by
  intro _; exact .inr rfl

theorem SelWord.framerReset (lane : Nat) : SelWord.Statement (.framerReset lane) := by
  intro _; exact .inr rfl

theorem SelWord.framerStep (lane : Nat) : SelWord.Statement (.framerStep lane) := by
  intro _; exact .inr rfl

theorem SelWord.alignInsA (lane slot : Nat) (lastF eqFC : Bool) : SelWord.Statement (.alignInsA lane slot lastF eqFC) := by
  intro _; right; cases lastF <;> cases eqFC <;> simp [decodeSel, Instr.port, Instr.sel, laneOf, slotOf, decodeSlot4, bit]

theorem SelWord.alignInsF (lane slot : Nat) (eq7C : Bool) : SelWord.Statement (.alignInsF lane slot eq7C) := by
  intro _; right; cases eq7C <;> simp [decodeSel, Instr.port, Instr.sel, laneOf, slotOf, decodeSlot4, bit]

theorem SelWord.alignInsPass (lane slot : Nat) (sel : BitVec 4) : SelWord.Statement (.alignInsPass lane slot sel) := by
  intro hw; right
  have hs : selInserts sel = false := by simpa [Instr.wf] using (Bool.and_eq_true_iff.mp hw).2
  simp only [selInserts, Bool.or_eq_false_iff, beq_eq_false_iff_ne] at hs
  have h1 : ¬ (sel &&& 10#4 = 10#4) := hs.1
  have h2 : ¬ (sel &&& 13#4 = 5#4) := hs.2
  simp [decodeSel, Instr.port, Instr.sel, laneOf, slotOf, decodeSlot4, sel.isLt, h1, h2]

theorem SelWord.alignReplClear (lane : Nat) : SelWord.Statement (.alignReplClear lane) := by
  intro _; exact .inr rfl

theorem SelWord.deframerPass (lane : Nat) : SelWord.Statement (.deframerPass lane) := by
  intro _; exact .inr rfl

theorem SelWord.alignerReset (lane : Nat) (rFound : Bool) : SelWord.Statement (.alignerReset lane rFound) := by
  intro _; right; cases rFound <;> rfl

theorem SelWord.alignerLatch (lane : Nat) : SelWord.Statement (.alignerLatch lane) := by
  intro _; exact .inr rfl

theorem SelWord.alignerHold (lane : Nat) : SelWord.Statement (.alignerHold lane) := by
  intro _; exact .inr rfl

theorem SelWord.cgsGen (lane : Nat) : SelWord.Statement (.cgsGen lane) := by
  intro _; exact .inr rfl

theorem SelWord.cgsCheck (lane : Nat) : SelWord.Statement (.cgsCheck lane) := by
  intro _; exact .inr rfl

theorem SelWord.ilasGenReset (lane : Nat) : SelWord.Statement (.ilasGenReset lane) := by
  intro _; exact .inr rfl

theorem SelWord.ilasGenStep (lane : Nat) : SelWord.Statement (.ilasGenStep lane) := by
  intro _; exact .inr rfl

theorem SelWord.ilasChkReset (lane : Nat) : SelWord.Statement (.ilasChkReset lane) := by
  intro _; exact .inr rfl

theorem SelWord.ilasChkStep (lane : Nat) : SelWord.Statement (.ilasChkStep lane) := by
  intro _; exact .inr rfl

theorem SelWord.ilasStart (lane : Nat) : SelWord.Statement (.ilasStart lane) := by
  intro _; exact .inr rfl

theorem SelWord.txDesync (lane : Nat) : SelWord.Statement (.txDesync lane) := by
  intro _; exact .inr rfl

theorem SelWord.txSyncLoss (lane : Nat) : SelWord.Statement (.txSyncLoss lane) := by
  intro _; exact .inr rfl

theorem SelWord.txAgg : SelWord.Statement (.txAgg) := by
  intro _; exact .inr rfl

theorem SelWord.rxIlasErr (lane : Nat) : SelWord.Statement (.rxIlasErr lane) := by
  intro _; exact .inr rfl

theorem SelWord.rxSyncLoss (lane : Nat) : SelWord.Statement (.rxSyncLoss lane) := by
  intro _; exact .inr rfl

theorem SelWord.rxAgg : SelWord.Statement (.rxAgg) := by
  intro _; exact .inr rfl

theorem SelWord.cfgSetField (f : Field) (value : Nat) : SelWord.Statement (.cfgSetField f value) := by
  intro _; exact .inl ⟨rfl, by simp [Instr.sel]⟩

theorem SelWord.cfgGetField (f : Field) : SelWord.Statement (.cfgGetField f) := by
  intro _; exact .inl ⟨rfl, by simp [Instr.sel]⟩

theorem SelWord.cfgRecompute : SelWord.Statement (.cfgRecompute) := by
  intro _; exact .inl ⟨rfl, by decide⟩

theorem SelWord.cfgSerialize : SelWord.Statement (.cfgSerialize) := by
  intro _; exact .inl ⟨rfl, by decide⟩

theorem SelWord.cfgDeserialize (b : List Nat) : SelWord.Statement (.cfgDeserialize b) := by
  intro _; exact .inl ⟨rfl, by simp [Instr.sel]⟩

theorem SelWord.cfgLinkBuild : SelWord.Statement (.cfgLinkBuild) := by
  intro _; exact .inl ⟨rfl, by decide⟩

theorem SelWord.cfgReserved (low : Bool) : SelWord.Statement (.cfgReserved low) := by
  intro _; left; cases low <;> decide

end Sys2Proof.Laws
end

