-- ==== Sys2Proof/Tests/Slice0.lean ====
section
/-! SUPPORT. Tests: decoding of words written out from the spec's table, the well-formedness checks, one-step vectors of
95_test_vectors.md (their ids stand in the names), and for each statement a witness of its hypotheses. -/

namespace Sys2Proof.Tests

set_option Elab.async false

open Sys2Proof Sys2Proof.Machine

/-! ## Helpers -/

/-- The next state, if any. -/
def next? : Out → Option State
  | .next s => some s
  | .fault _ => none
  | .refused _ => none

/-- The operation a record names, if any. -/
def ok? {ε α : Type} : Except ε α → Option α
  | .ok a => some a
  | .error _ => none

/-- The error, if any. -/
def error? {ε α : Type} : Except ε α → Option ε
  | .ok _ => none
  | .error e => some e

theorem ok_of {ε α : Type} (x : Except ε α) (d : α) (h : (ok? x).isSome = true) : x = .ok ((ok? x).getD d) := by
  cases x with
  | ok a => rfl
  | error e => simp [ok?] at h

theorem eq_ok {ε α : Type} {x : Except ε α} {a : α} (h : ok? x = some a) : x = .ok a := by
  cases x with
  | ok b => simpa [ok?] using h
  | error e => simp [ok?] at h

/-- A link on which nothing works, for the branch `builtLink` never takes. -/
def noLink : Link := { params := Params.ofExamples, cfg := Vector.replicate 14 0, laneCfg := [], table := [] }

/-- The built link of CFG-A (95_test_vectors.md section 2). -/
def builtLink : Link := (ok? (linkBuild Params.ofExamples exampleCfg)).getD noLink

/-- CFG-A built, engines at power-on. -/
def built : State := instantiate builtLink { State.reset with cfg := exampleCfg }

/-- CFG-A built, with these lane registers. -/
def at' (l : TxLane) (r : RxLane) : State :=
  { built with cur := { built.cur with tx := [l], rx := [r] }, nxt := { built.nxt with tx := [l], rx := [r] } }

/-- A TX lane at reset. -/
def tx0 : TxLane := TxLane.reset 4
/-- An RX lane at reset. -/
def rx0 : RxLane := RxLane.reset 4
/-- TX lane 0's registers after an operation. -/
def txOf (o : Out) : Option TxLane := (next? o).bind (fun s => s.nxt.tx[0]?)
/-- RX lane 0's registers after an operation. -/
def rxOf (o : Out) : Option RxLane := (next? o).bind (fun s => s.nxt.rx[0]?)
/-- TX lane 0's signals after an operation. -/
def txSigOf (o : Out) : Option TxSig := (next? o).bind (fun s => s.sig.tx[0]?)
/-- RX lane 0's signals after an operation. -/
def rxSigOf (o : Out) : Option RxSig := (next? o).bind (fun s => s.sig.rx[0]?)
/-- The configuration caller's reply after an operation. -/
def replyOf (o : Out) : Option Reply := (next? o).map State.reply
/-- The settings after an operation. -/
def cfgOf (o : Out) : Option Settings := (next? o).map State.cfg
/-- `/R/`, `/K/` and a data octet. -/
def cR : Sym := ⟨true, 0x1C⟩
def cK : Sym := ⟨true, 0xBC⟩
def dat (d : Octet) : Sym := ⟨false, d⟩
/-- The state with an RX input word. -/
def withRxIn (w : LinkWord) (s : State) : State := { s with inp := { s.inp with rxIn := [w] } }
/-- The state with a TX input word. -/
def withTxIn (w : DataWord) (s : State) : State := { s with inp := { s.inp with txIn := [w] } }
/-- A state with the settings `c`. -/
def withCfg (c : Settings) : State := { State.reset with cfg := c }
/-- 14 octets of 0. -/
def zeros : Settings := Vector.replicate 14 0

theorem built_ok : linkBuild Params.ofExamples exampleCfg = .ok builtLink := ok_of _ _ (by decide +kernel)

/-! ## Decoding: words written out from 30_encoding.md R92, R103 and opcode_table.json, with the record bytes of log 2 -/

theorem test_decode_symR : decode .sym [0x1C, 0x01, 0, 0, 0] = .ok (.symR 0 0) := by rfl
theorem test_decode_symA : decode .sym [0x7C, 0x01, 1, 2, 0] = .ok (.symA 1 2) := by rfl
theorem test_decode_symQ : decode .sym [0x9C, 0x01, 0, 1, 0] = .ok (.symQ 0 1) := by rfl
theorem test_decode_symK : decode .sym [0xBC, 0x01, 0, 0, 1] = .ok (.symK 0 256) := by rfl
theorem test_decode_symF : decode .sym [0xFC, 0x01, 0, 3, 0] = .ok (.symF 0 3) := by rfl
theorem test_decode_symData_7C : decode .sym [0x7C, 0x00, 0, 3, 0] = .ok (.symData 0 3 0x7C) := by rfl
theorem test_decode_symReserved : decode .sym [0x50, 0x01, 0, 0, 0] = .ok (.symReserved 0 0 0x50) := by rfl
theorem test_decode_txSendCgs : decode .txFsm [0, 5] = .ok (.txSendCgs 5) := by rfl
theorem test_decode_txSendIlas : decode .txFsm [1, 0] = .ok (.txSendIlas 0) := by rfl
theorem test_decode_txSendData : decode .txFsm [2, 0] = .ok (.txSendData 0) := by rfl
theorem test_decode_txIllegal : decode .txFsm [3, 31] = .ok (.txIllegal 31) := by rfl
theorem test_decode_rxReceiveCgs : decode .rxFsm [0, 0] = .ok (.rxReceiveCgs 0) := by rfl
theorem test_decode_rxAssertSync : decode .rxFsm [1, 0] = .ok (.rxAssertSync 0) := by rfl
theorem test_decode_rxReceiveIlas : decode .rxFsm [2, 1] = .ok (.rxReceiveIlas 1) := by rfl
theorem test_decode_rxReceiveData : decode .rxFsm [3, 0] = .ok (.rxReceiveData 0) := by rfl
theorem test_decode_lmfcReset : decode .lmfc [3, 1] = .ok (.lmfcReset .rx true) := by rfl
theorem test_decode_lmfcLoad : decode .lmfc [1, 0] = .ok (.lmfcLoad .tx) := by rfl
theorem test_decode_lmfcCount : decode .lmfc [0, 1] = .ok (.lmfcCount .rx) := by rfl
theorem test_decode_scrReset : decode .scr [2, 0] = .ok (.scrReset 0 false) := by rfl
theorem test_decode_scrStep : decode .scr [1, 0] = .ok (.scrStep 0) := by rfl
theorem test_decode_scrBypass : decode .scr [0, 0] = .ok (.scrBypass 0) := by rfl
theorem test_decode_descrReset : decode .descr [3, 0] = .ok (.descrReset 0 true) := by rfl
theorem test_decode_descrStep : decode .descr [1, 0] = .ok (.descrStep 0) := by rfl
theorem test_decode_descrBypass : decode .descr [0, 0] = .ok (.descrBypass 0) := by rfl
theorem test_decode_framerReset : decode .framer [1, 0] = .ok (.framerReset 0) := by rfl
theorem test_decode_framerStep : decode .framer [0, 0] = .ok (.framerStep 0) := by rfl
theorem test_decode_alignInsA : decode .alignIns [0xA, 0, 3, 0] = .ok (.alignInsA 0 3 false false) := by rfl
theorem test_decode_alignInsF : decode .alignIns [0x5, 0, 1, 0] = .ok (.alignInsF 0 1 false) := by rfl
theorem test_decode_alignInsPass_multiframe_end : decode .alignIns [0xD, 0, 3, 0] = .ok (.alignInsPass 0 3 13) := by rfl
theorem test_decode_alignReplClear : decode .alignRepl [0, 0] = .ok (.alignReplClear 0) := by rfl
theorem test_decode_deframerPass : decode .deframer [0, 0] = .ok (.deframerPass 0) := by rfl
theorem test_decode_alignerReset : decode .aligner [2, 0] = .ok (.alignerReset 0 false) := by rfl
theorem test_decode_alignerLatch : decode .aligner [1, 0] = .ok (.alignerLatch 0) := by rfl
theorem test_decode_alignerHold : decode .aligner [0, 0] = .ok (.alignerHold 0) := by rfl
theorem test_decode_ilasGenReset : decode .ilasGen [1, 0] = .ok (.ilasGenReset 0) := by rfl
theorem test_decode_ilasChkStep : decode .ilasChk [0, 0] = .ok (.ilasChkStep 0) := by rfl
theorem test_decode_cgsGen : decode .cgsGen [0, 0] = .ok (.cgsGen 0) := by rfl
theorem test_decode_txDesync : decode .txDesync [0, 2] = .ok (.txDesync 2) := by rfl
theorem test_decode_txAgg : decode .txAgg [0] = .ok (.txAgg) := by rfl
theorem test_decode_cfgSetField_L : decode .cfgop [0, 6, 2, 0, 0, 0] = .ok (.cfgSetField .L 2) := by rfl
theorem test_decode_cfgGetField_K : decode .cfgop [1, 9] = .ok (.cfgGetField .K) := by rfl
theorem test_decode_cfgRecompute : decode .cfgop [2] = .ok (.cfgRecompute) := by rfl
theorem test_decode_cfgSerialize : decode .cfgop [3] = .ok (.cfgSerialize) := by rfl
theorem test_decode_cfgDeserialize : decode .cfgop [4, 2, 0x5A, 0, 0, 1] = .ok (.cfgDeserialize [0x5A, 256]) := by rfl
theorem test_decode_cfgLinkBuild : decode .cfgop [5] = .ok (.cfgLinkBuild) := by rfl
theorem test_decode_cfgReserved : decode .cfgop [7] = .ok (.cfgReserved true) := by rfl
theorem test_decode_refuses_wide_select : decode .txFsm [4, 0] = .error .reservedBits := by rfl
theorem test_decode_refuses_sym_bit9 : decode .sym [0, 2, 0, 0, 0] = .error .reservedBits := by rfl
theorem test_decode_refuses_engine : decode .lmfc [0, 2] = .error .badEngine := by rfl
theorem test_decode_refuses_lane : decode .scr [0, 32] = .error .badLane := by rfl
theorem test_decode_refuses_field : decode .cfgop [1, 22] = .error .badField := by rfl
theorem test_decode_refuses_trailing : decode .cfgop [3, 1] = .error .trailing := by rfl
theorem test_decode_refuses_short : decode .sym [0x1C, 1, 0] = .error .truncated := by rfl
theorem test_decodeTableWord : decodeTableWord 16 0x11C = some (.symR 0 0) ∧ decodeTableWord 8 5 = some .cfgLinkBuild
    ∧ decodeTableWord 8 10 = some (.alignInsA 0 0 false false) := by decide +kernel

/-! ## Well-formedness: an ill-formed term for each check -/

theorem test_wf_refuses_lane : Instr.wf (.txSendCgs 32) = false := by decide +kernel
theorem test_wf_refuses_slot : Instr.wf (.symR 0 65536) = false := by decide +kernel
theorem test_wf_refuses_reserved_is_named : Instr.wf (.symReserved 0 0 0xBC) = false := by decide +kernel
theorem test_wf_refuses_pass_selects_A : Instr.wf (.alignInsPass 0 0 14) = false := by decide +kernel
theorem test_wf_refuses_pass_selects_F : Instr.wf (.alignInsPass 0 0 7) = false := by decide +kernel
theorem test_wf_refuses_value : Instr.wf (.cfgSetField .K 4294967296) = false := by decide +kernel
theorem test_wf_refuses_array_length : Instr.wf (.cfgDeserialize (List.replicate 256 0)) = false := by decide +kernel
theorem test_wf_refuses_array_value : Instr.wf (.cfgDeserialize [65536]) = false := by decide +kernel

theorem test_withFetchWord : (next? (step (State.reset.withFetchWord 8 10))).isSome = true
    ∧ (next? (step (State.reset.withFetchWord 16 0x11C))).isSome = true ∧ (next? (step (State.reset.withFetchWord 8 5))).isSome = true := by
  decide +kernel

/-! ## One-step vectors (95_test_vectors.md; the vector's id stands in the name) -/

/-- The settings with one field set. -/
def setF (f : Field) (v : Nat) (c : Settings) : Settings := (ok? (setField f v c)).getD (Vector.replicate 14 0)
/-- CFG-A, built with other parameters. -/
def buildWith (c : Settings) (dw load : Nat) : Option Reply :=
  replyOf (exec .cfgLinkBuild { withCfg c with params := { Params.ofExamples with dw := dw, lmfcLoad := load } })
/-- The reply of a ConfigError. -/
def cfgErr (c : ConfigCause) : Option Reply := some (.error (.configError c))
/-- CFG-A with F = 4, M = 2. -/
def cfgF4 : Settings := setF .M 2 (setF .F 4 exampleCfg)
/-- The F = 1 settings with a K. -/
def cfgF1 (k : Nat) : Settings := setF .K k (setF .NP 8 (setF .N 8 (setF .F 1 exampleCfg)))
/-- The S19 octets. -/
def s19 : List Nat := exampleCfg.toList.map BitVec.toNat

theorem test_symR :
    (next? (exec (.symR 0 2) built)).map (fun s => s.inp.rxIn) = some [[dat 0, dat 0, ⟨true, 0x1C⟩, dat 0]] := by decide +kernel
theorem test_symA :
    (next? (exec (.symA 0 2) built)).map (fun s => s.inp.rxIn) = some [[dat 0, dat 0, ⟨true, 0x7C⟩, dat 0]] := by decide +kernel
theorem test_symQ :
    (next? (exec (.symQ 0 2) built)).map (fun s => s.inp.rxIn) = some [[dat 0, dat 0, ⟨true, 0x9C⟩, dat 0]] := by decide +kernel
theorem test_symK :
    (next? (exec (.symK 0 2) built)).map (fun s => s.inp.rxIn) = some [[dat 0, dat 0, ⟨true, 0xBC⟩, dat 0]] := by decide +kernel
theorem test_symF :
    (next? (exec (.symF 0 2) built)).map (fun s => s.inp.rxIn) = some [[dat 0, dat 0, ⟨true, 0xFC⟩, dat 0]] := by decide +kernel
theorem test_symData :
    (next? (exec (.symData 0 2 0x1C) built)).map (fun s => s.inp.rxIn) = some [[dat 0, dat 0, ⟨false, 0x1C⟩, dat 0]] := by decide +kernel
theorem test_symReserved :
    (next? (exec (.symReserved 0 2 0x50) built)).map (fun s => s.inp.rxIn) = some [[dat 0, dat 0, ⟨true, 0x50⟩, dat 0]] := by
  decide +kernel
theorem test_symR_no_slot :
    exec (.symR 0 4) built = .fault (.noSuchSlot 4) := by rfl
theorem test_S1 :
    cfgOf (exec (.cfgSetField .L 2) (withCfg zeros)) = some (zeros.set 3 0x01) := by decide +kernel
theorem test_S2_S4 :
    replyOf (exec (.cfgSetField .L 0) (withCfg zeros)) = some (.error (.rangeError (some .L)))
      ∧ next? (exec (.cfgSetField .L 33) (withCfg zeros)) = some { withCfg zeros with reply := .error (.rangeError (some .L)) } := by
  decide +kernel
theorem test_S10 :
    replyOf (exec (.cfgGetField .K) (withCfg exampleCfg)) = some (.value 10)
      ∧ replyOf (exec (.cfgGetField .F) (withCfg exampleCfg)) = some (.value 2) := by decide +kernel
theorem test_S11_S12 :
    cfgOf (exec .cfgRecompute (withCfg (exampleCfg.set 13 0))) = some exampleCfg
      ∧ checksum .fields exampleCfg = 0x89 := by decide +kernel
theorem test_S14_S16 :
    replyOf (exec .cfgRecompute (withCfg zeros)) = cfgErr .F_UNSUPPORTED
      ∧ replyOf (exec .cfgRecompute (withCfg (setF .F 4 exampleCfg))) = cfgErr .MSNP := by decide +kernel
theorem test_S27_serialize :
    replyOf (exec .cfgSerialize (withCfg (setF .DID 0x5B exampleCfg))) =
      some (.octets [0x5B, 0x03, 0x00, 0x80, 0x02, 0x09, 0x00, 0x0F, 0x2F, 0x20, 0x00, 0x00, 0x00, 0x46]) := by decide +kernel
theorem test_S20_S29 :
    cfgOf (exec (.cfgDeserialize s19) (withCfg zeros)) = some exampleCfg
      ∧ (ok? (deserialize .octets ((s19.set 2 0x80).set 13 0xC6))).map (checksum .fields) = some 0x89 := by decide +kernel
theorem test_S23_S25 :
    replyOf (exec (.cfgDeserialize (s19.set 13 0x47)) (withCfg zeros)) = some (.error .checksumMismatch)
      ∧ replyOf (exec (.cfgDeserialize ((s19.take 13))) (withCfg zeros)) = some (.error (.rangeError none))
      ∧ replyOf (exec (.cfgDeserialize (s19.set 0 256)) (withCfg zeros)) = some (.error (.rangeError none)) := by decide +kernel
theorem test_B1_to_B9 :
    (buildWith exampleCfg 32 0, buildWith exampleCfg 16 0, buildWith exampleCfg 32 4) = (some .built, some .built, some .built)
      ∧ buildWith exampleCfg 12 5 = cfgErr .DW ∧ buildWith exampleCfg 4 0 = cfgErr .DW ∧ buildWith exampleCfg 8 0 = cfgErr .FPC
      ∧ buildWith exampleCfg 64 0 = cfgErr .K_FPC ∧ buildWith exampleCfg 32 5 = cfgErr .LOAD := by decide +kernel
theorem test_B11_to_B20 :
    buildWith (setF .K 4 cfgF4) 32 0 = cfgErr .ILAS_SHORT ∧ buildWith (setF .K 5 cfgF4) 32 0 = some .built
      ∧ buildWith (cfgF1 18) 32 0 = cfgErr .K_FPC ∧ buildWith (cfgF1 17) 8 0 = some .built
      ∧ buildWith (cfgF1 16) 8 0 = cfgErr .ILAS_SHORT ∧ buildWith (cfgF1 32) 256 0 = cfgErr .ILAS_SHORT
      ∧ buildWith (setF .F 3 exampleCfg) 32 0 = cfgErr .F_UNSUPPORTED := by decide +kernel
theorem test_I1_entries :
    memReadIlas builtLink 0 0 = some [cR, dat 1, dat 2, dat 3] ∧ memReadIlas builtLink 0 4 = some [dat 0x10, dat 0x11, dat 0x12, ⟨true, 0x7C⟩]
      ∧ memReadIlas builtLink 0 5 = some [cR, ⟨true, 0x9C⟩, dat 0x5A, dat 3] ∧ memReadIlas builtLink 0 8 = some [dat 0, dat 0, dat 0, dat 0x46]
      ∧ memReadIlas builtLink 0 19 = some [dat 0x4C, dat 0x4D, dat 0x4E, ⟨true, 0x7C⟩] ∧ memReadIlas builtLink 0 20 = none := by
  decide +kernel

/-- CFG-A built with LMFC_LOAD 2 and C = 5, the TX divider holding `c` and `jref_prev`, `jref` and `rst` presented. -/
def lmfcAt (c : Nat) (prev jref rst : Bool) : State :=
  { built with
    link := some { builtLink with params := { builtLink.params with lmfcLoad := 2 } }
    cur := { built.cur with txLmfc := ⟨c, prev⟩ }
    inp := { built.inp with txJref := jref, txRst := rst } }
/-- The TX divider's registers after its component ran. -/
def lmfcOf (o : Out) : Option Lmfc := (next? o).map (fun s => s.nxt.txLmfc)

theorem test_L2_load :
    lmfcOf (exec (.lmfcLoad .tx) (lmfcAt 2 false true false)) = some ⟨2, true⟩
      ∧ lmfcOf (runInstance ⟨.lmfc, 0, 0⟩ (lmfcAt 2 true true false)) = some ⟨3, true⟩ := by decide +kernel
theorem test_L2_count :
    lmfcOf (exec (.lmfcCount .tx) (lmfcAt 4 true false false)) = some ⟨0, false⟩ := by decide +kernel
theorem test_L7_reset :
    lmfcOf (exec (.lmfcReset .tx true) (lmfcAt 3 false true true)) = some ⟨0, false⟩
      ∧ lmfcOf (runInstance ⟨.lmfc, 0, 0⟩ (lmfcAt 3 false true true)) = some ⟨0, false⟩ := by decide +kernel
theorem test_X3_scrStep :
    (txOf (exec (.scrStep 0) (withTxIn [0x78, 0x56, 0x34, 0x12] (at' tx0 rx0)))).map (fun l => (l.scrOut, l.scrState, l.scrValid))
      = some ([0x79, 0x57, 0x23, 0xE0], 0x23E0, true) := by decide +kernel
theorem test_X22_scrBypass :
    (txOf (exec (.scrBypass 0) (withTxIn [0x78, 0x56, 0x34, 0x12] (at' tx0 rx0)))).map (fun l => (l.scrOut, l.scrState, l.scrValid))
      = some ([0x78, 0x56, 0x34, 0x12], 0x7F80, true) := by decide +kernel
theorem test_X21_scrReset :
    (txOf (exec (.scrReset 0 true) (at' { tx0 with scrOut := [1, 2, 3, 4], scrValid := true, scrState := 5 } rx0))).map
      (fun l => (l.scrOut, l.scrState, l.scrValid)) = some ([0, 0, 0, 0], 0x7F80, false) := by decide +kernel
theorem test_X14_descrStep :
    (rxOf (exec (.descrStep 0) (at' tx0 { rx0 with alPrev := [0x01, 0x00, 0x06, 0x00].map dat }))).map
      (fun l => (l.dscrOut, l.dscrState, l.dscrValid)) = some ([0, 0, 0, 0], 0x0600, true) := by decide +kernel
theorem test_X16_descramble :
    (descramble 0 [0x80, 0x00, 0x00, 0x00]).1 = [0x80, 0x03, 0x00, 0x00] ∧ (scramble 0x7F80 [0x24, 0x24, 0x24, 0x24]) = ([0x25, 0x24, 0xFA, 0xFE], 0x7AFE) := by
  decide +kernel
theorem test_X23_descrBypass :
    (rxOf (exec (.descrBypass 0) (at' tx0 { rx0 with alPrev := List.replicate 4 ⟨true, 0x7C⟩ }))).map (fun l => (l.dscrOut, l.dscrValid))
      = some ([0x7C, 0x7C, 0x7C, 0x7C], true) := by decide +kernel
theorem test_descrReset :
    (rxOf (exec (.descrReset 0 false) (at' tx0 { rx0 with dscrOut := [1, 2, 3, 4], dscrValid := true, dscrState := 5 }))).map
      (fun l => (l.dscrOut, l.dscrState, l.dscrValid)) = some ([0, 0, 0, 0], 0x7F80, false) := by decide +kernel
theorem test_W5 :
    scramble 0x7F80 [0x34, 0x12] = ([0x35, 0x12], 0x3512) := by decide +kernel
theorem test_FR4_framerStep :
    (txOf (exec (.framerStep 0) (at' { tx0 with frCnt := 4 } rx0))).map TxLane.frCnt = some 0
      ∧ (txSigOf (exec (.framerStep 0) (at' { tx0 with frCnt := 4 } rx0))).map (fun x => (x.lastF, x.lastMf))
        = some ([false, true, false, true], [false, false, false, true]) := by decide +kernel
theorem test_FR5_framerReset :
    (txOf (exec (.framerReset 0) (at' { tx0 with frCnt := 3 } rx0))).map TxLane.frCnt = some 0 := by decide +kernel
theorem test_AI1_AI2_AI3 :
    insertedWord builtLink { tx0 with frCnt := 4, scrOut := [0x7C, 0x7C, 0xFC, 0x7C] } = [dat 0x7C, dat 0x7C, dat 0xFC, ⟨true, 0x7C⟩]
      ∧ insertedWord builtLink { tx0 with frCnt := 4, scrOut := [0xFC, 0xFC, 0xFC, 0xFC] } = [dat 0xFC, ⟨true, 0xFC⟩, dat 0xFC, dat 0xFC]
      ∧ insertedWord builtLink { tx0 with scrOut := [0xFC, 0xFC, 0xFC, 0xFC] } = [dat 0xFC, ⟨true, 0xFC⟩, dat 0xFC, ⟨true, 0xFC⟩] := by
  decide +kernel
theorem test_AI1_alignInsA :
    (txSigOf (exec (.alignInsA 0 3 true false) (at' tx0 rx0))).map TxSig.insCtrl = some [false, false, false, true]
      ∧ (txSigOf (runInstance ⟨.alignIns, 0, 3⟩ (at' { tx0 with frCnt := 4, scrOut := [0x7C, 0x7C, 0xFC, 0x7C] } rx0))).map TxSig.insCtrl
        = some [false, false, false, true] := by decide +kernel
theorem test_AI3_alignInsF :
    (txSigOf (exec (.alignInsF 0 1 false) (at' tx0 rx0))).map TxSig.insCtrl = some [false, true, false, false] := by decide +kernel
theorem test_AI4_alignInsPass :
    (txSigOf (exec (.alignInsPass 0 3 6) (at' tx0 rx0))).map TxSig.insCtrl = some [false, false, false, false] := by decide +kernel
theorem test_AR1_alignReplClear :
    (rxSigOf (exec (.alignReplClear 0) (at' tx0 { rx0 with alPrev := [dat 9, dat 0xA6, dat 0x1D, ⟨true, 0xFC⟩] }))).map RxSig.replaced
      = some [dat 9, dat 0xA6, dat 0x1D, dat 0xFC] := by decide +kernel
theorem test_AR3_deframerPass :
    (rxSigOf (exec (.deframerPass 0) (at' tx0 { rx0 with alPrev := [cK, dat 0, dat 0, dat 0] }))).map RxSig.deframed = some [0xBC, 0, 0, 0] := by
  decide +kernel
theorem test_AL1_alignerLatch :
    (rxOf (exec (.alignerLatch 0) (withRxIn [dat 0, dat 0, cR, dat 1] (at' tx0 rx0)))).map (fun l => (l.alOff, l.alPrev))
      = some (2, [dat 0, dat 0, cR, dat 1]) := by decide +kernel
theorem test_AL5_alignerHold :
    (rxSigOf (exec (.alignerHold 0) (withRxIn [dat 0x10, dat 0x11, dat 0x12, dat 0x13] (at' tx0 { rx0 with alOff := 2 })))).map RxSig.aligned
      = some [dat 0, dat 0, dat 0x10, dat 0x11] := by decide +kernel
theorem test_AL6 :
    (rxOf (runInstance ⟨.aligner, 0, 0⟩ (withRxIn [dat 0, dat 0x1C, dat 0, dat 0] (at' tx0 { rx0 with alOff := 3 })))).map RxLane.alOff = some 3 := by
  decide +kernel
theorem test_alignerReset :
    (rxOf (exec (.alignerReset 0 true) (withRxIn [cR, dat 0, dat 0, dat 0] (at' tx0 { rx0 with alOff := 3 })))).map (fun l => (l.alOff, l.alPrev))
      = some (0, List.replicate 4 Sym.zero) := by decide +kernel
theorem test_cgsGen :
    (txSigOf (exec (.cgsGen 0) built)).map TxSig.cgsWord = some [cK, cK, cK, cK] := by decide +kernel
theorem test_CG1_CG2_cgsCheck :
    (rxSigOf (exec (.cgsCheck 0) (at' tx0 { rx0 with alPrev := [cK, cK, cK, cK] }))).map RxSig.cgsValid = some true
      ∧ (rxSigOf (exec (.cgsCheck 0) (at' tx0 { rx0 with alPrev := [cK, cK, dat 0xBC, cK] }))).map RxSig.cgsValid = some false := by
  decide +kernel
theorem test_CG6_CG9_ilasStart :
    (rxSigOf (exec (.ilasStart 0) (at' tx0 { rx0 with alPrev := [cR, dat 0x1C, dat 2, dat 3] }))).map RxSig.startValid = some true
      ∧ (rxSigOf (exec (.ilasStart 0) (at' tx0 { rx0 with alPrev := [cR, dat 1, dat 2, ⟨true, 0x7C⟩] }))).map RxSig.startValid = some false := by
  decide +kernel
theorem test_I6_ilasGenStep :
    (txOf (exec (.ilasGenStep 0) (at' { tx0 with ilasIdx := 19 } rx0))).map TxLane.ilasIdx = some 19
      ∧ (txSigOf (exec (.ilasGenStep 0) (at' { tx0 with ilasIdx := 19 } rx0))).map TxSig.ilasDone = some true := by decide +kernel
theorem test_I6_ilasGenReset :
    (txOf (exec (.ilasGenReset 0) (at' { tx0 with ilasIdx := 7 } rx0))).map TxLane.ilasIdx = some 0 := by decide +kernel
theorem test_I8_ilasChkStep :
    (rxSigOf (exec (.ilasChkStep 0) (at' tx0 { rx0 with icIdx := 8, icIn := [dat 0, dat 1, dat 0, dat 0x46] }))).map RxSig.icValid = some false
      ∧ (rxOf (exec (.ilasChkStep 0) (at' tx0 { rx0 with icIdx := 8, icIn := [dat 0, dat 1, dat 0, dat 0x46] }))).map RxLane.icIdx = some 9 := by
  decide +kernel
theorem test_I9_ilasChkReset :
    (rxSigOf (exec (.ilasChkReset 0) (at' tx0 { rx0 with icIn := [dat 0x1C, dat 1, dat 2, dat 3] }))).map RxSig.icValid = some false
      ∧ (rxOf (exec (.ilasChkReset 0) (at' tx0 { rx0 with icIdx := 8, alPrev := [cK, cK, cK, cK] }))).map (fun l => (l.icIdx, l.icIn))
        = some (0, [cK, cK, cK, cK]) := by decide +kernel

/-- The state with these TX control inputs. -/
def withTxCtl (rst resync jsync : Bool) (s : State) : State :=
  { s with inp := { s.inp with txRst := rst, txResync := resync, jsync := jsync } }
/-- The state with these RX control inputs. -/
def withRxCtl (rst resync : Bool) (s : State) : State := { s with inp := { s.inp with rxRst := rst, rxResync := resync } }
/-- The state with an RX divider count. -/
def withRxCount (c : Nat) (s : State) : State := { s with cur := { s.cur with rxLmfc := ⟨c, false⟩ } }
/-- The state with a TX divider count. -/
def withTxCount (c : Nat) (s : State) : State := { s with cur := { s.cur with txLmfc := ⟨c, false⟩ } }
/-- An aligned CGS word. -/
def cgs4 : LinkWord := [cK, cK, cK, cK]

theorem test_T2_T3_txSendCgs :
    (txOf (exec (.txSendCgs 0) (withTxCtl false false true (at' tx0 rx0)))).map TxLane.state = some 1
      ∧ (txOf (exec (.txSendCgs 0) (withTxCount 1 (withTxCtl false false true (at' tx0 rx0))))).map TxLane.state = some 0 := by
  decide +kernel
theorem test_T5_T9_txSendIlas :
    (txOf (exec (.txSendIlas 0) (at' { tx0 with state := 1, ilasIdx := 19 } rx0))).map TxLane.state = some 2
      ∧ (txOf (exec (.txSendIlas 0) (withTxCtl false true false (at' { tx0 with state := 1, ilasIdx := 19 } rx0)))).map TxLane.state = some 0 := by
  decide +kernel
theorem test_T7_txSendData :
    (txOf (exec (.txSendData 0) (at' { tx0 with state := 2, desyncCnt := 3 } rx0))).map TxLane.state = some 0
      ∧ (txSigOf (exec (.txSendData 0) (at' { tx0 with state := 2, scrOut := [1, 0xFC, 0, 0] } rx0))).map (fun x => (x.out, x.ready))
        = some ([dat 1, ⟨true, 0xFC⟩, dat 0, dat 0], true) := by decide +kernel
theorem test_txIllegal :
    runInstance ⟨.txFsm, 0, 0⟩ (at' { tx0 with state := 3 } rx0) = .fault (.txStateIllegal 0) := by rfl
theorem test_RX1_RX2_rxReceiveCgs :
    (rxOf (exec (.rxReceiveCgs 0) (at' tx0 { rx0 with alPrev := cgs4 }))).map RxLane.state = some 1
      ∧ (rxOf (exec (.rxReceiveCgs 0) (withRxCount 1 (at' tx0 { rx0 with alPrev := cgs4 })))).map RxLane.state = some 0 := by
  decide +kernel
theorem test_RX4_RX13_rxAssertSync :
    (rxOf (exec (.rxAssertSync 0) (at' tx0 { rx0 with state := 1, alPrev := [cR, dat 1, dat 2, dat 3] }))).map RxLane.state = some 2
      ∧ (rxOf (exec (.rxAssertSync 0) (withRxCtl false true (at' tx0 { rx0 with state := 1 })))).map RxLane.state = some 0 := by
  decide +kernel
theorem test_RX7_RX8_rxReceiveIlas :
    (rxOf (exec (.rxReceiveIlas 0) (at' tx0 { rx0 with state := 2, icIdx := 19, icIn := [dat 0x4C, dat 0x4D, dat 0x4E, ⟨true, 0x7C⟩] }))).map
        RxLane.state = some 3
      ∧ (rxOf (exec (.rxReceiveIlas 0) (at' tx0 { rx0 with state := 2, icIdx := 19 }))).map RxLane.state = some 0 := by decide +kernel
theorem test_RX11_RX12_rxReceiveData :
    (rxOf (exec (.rxReceiveData 0) (at' tx0 { rx0 with state := 3, alPrev := cgs4 }))).map RxLane.state = some 0
      ∧ (rxOf (exec (.rxReceiveData 0) (at' tx0 { rx0 with state := 3 }))).map RxLane.state = some 3 := by decide +kernel
theorem test_DS1_txDesync :
    (txOf (exec (.txDesync 0) (at' { tx0 with desyncCnt := 3 } rx0))).map TxLane.desyncCnt = some 4
      ∧ (txSigOf (exec (.txDesync 0) (at' { tx0 with desyncCnt := 3 } rx0))).map TxSig.desync = some true
      ∧ (txSigOf (exec (.txDesync 0) (at' { tx0 with desyncCnt := 2 } rx0))).map TxSig.desync = some false := by decide +kernel
theorem test_CN1_T10_txSyncLoss :
    (txOf (exec (.txSyncLoss 0) (at' { tx0 with state := 2, desyncCnt := 3, syncLoss := 255 } rx0))).map TxLane.syncLoss = some 255
      ∧ (txOf (exec (.txSyncLoss 0) (withTxCtl true true false (at' { tx0 with state := 2, syncLoss := 2 } rx0)))).map TxLane.syncLoss = some 0 := by
  decide +kernel
theorem test_RX9_rxIlasErr :
    (rxOf (exec (.rxIlasErr 0) (at' tx0 { rx0 with state := 2, ilasErr := 4 }))).map RxLane.ilasErr = some 5
      ∧ (rxOf (exec (.rxIlasErr 0) (at' tx0 { rx0 with state := 1, ilasErr := 4 }))).map RxLane.ilasErr = some 4 := by decide +kernel
theorem test_RX13_RX14_rxSyncLoss :
    (rxOf (exec (.rxSyncLoss 0) (withRxCtl false true (at' tx0 { rx0 with state := 3, syncLoss := 4 })))).map RxLane.syncLoss = some 5
      ∧ (rxOf (exec (.rxSyncLoss 0) (withRxCtl false true (at' tx0 { rx0 with state := 1, syncLoss := 4 })))).map RxLane.syncLoss = some 4 := by
  decide +kernel
theorem test_AG5_txAgg :
    (next? (exec .txAgg { built with cur := { built.cur with tx := [{ tx0 with state := 2 }, { tx0 with state := 1 }] } })).map
      (fun s => s.sig.txReady) = some false
      ∧ (next? (exec .txAgg (at' { tx0 with state := 2 } rx0))).map (fun s => s.sig.txReady) = some true := by decide +kernel
theorem test_AG1_AG4_rxAgg :
    (next? (exec .rxAgg { built with cur := { built.cur with rx := [{ rx0 with state := 3 }, rx0], agg := ⟨true, true⟩ } })).map
      (fun s => s.nxt.agg) = some ⟨false, false⟩
      ∧ (next? (exec .rxAgg (withRxCount 1 { built with cur := { built.cur with agg := ⟨true, false⟩ } }))).map (fun s => s.nxt.agg)
        = some ⟨true, false⟩ := by decide +kernel

theorem test_R305_records_find_code_11 : exec (.txSyncLoss 0) (at' { tx0 with state := 3 } rx0) = .fault (.txStateIllegal 0)
    ∧ exec .txAgg (at' { tx0 with state := 3 } rx0) = .fault (.txStateIllegal 0) := ⟨by rfl, by rfl⟩
theorem test_R305_records_find_the_count : exec (.txSendCgs 0) (withTxCount 5 built) = .fault (.lmfcCountRange .tx)
    ∧ exec (.rxReceiveCgs 0) (withRxCount 5 built) = .fault (.lmfcCountRange .rx)
    ∧ exec .rxAgg (withRxCount 5 built) = .fault (.lmfcCountRange .rx) := ⟨by rfl, by rfl, by rfl⟩
/-- R130: every lane's FCHK is recomputed (entry 8 of I1 carries it), also on a lane whose LID is the register's; DID 5B makes the sum
of 95_test_vectors.md section 2 one more, and LID 1 one more again. -/
theorem test_R130_stale_checksum :
    (ok? (linkBuild Params.ofExamples (setF .DID 0x5B exampleCfg))).bind (fun lk => memReadIlas lk 0 8)
        = some [dat 0, dat 0, dat 0, dat 0x47]
      ∧ (ok? (linkBuild { Params.ofExamples with lids := [1] } (setF .DID 0x5B exampleCfg))).bind (fun lk => memReadIlas lk 0 8)
        = some [dat 0, dat 0, dat 0, dat 0x48] := by decide +kernel
theorem test_I7_lane_id_range :
    error? (linkBuild { Params.ofExamples with lids := [32] } exampleCfg) = some (.rangeError (some .LID)) := by decide +kernel

/-! ## Witnesses: for each statement with hypotheses, a state and operands that meet them -/

theorem inv_of (s : State) (lk : Link) (h : s.link = some lk) (hb : linkBuild s.params s.cfg = .ok lk)
    (hr : s.cur.ok lk) (hi : s.inp.ok lk) (hg : s.sig.ok lk) (hs : s.nxt = s.cur) : Inv s := by
  refine ⟨fun lk' h' => ?_, hs⟩
  obtain rfl : lk = lk' := Option.some.inj (h.symm.trans h')
  exact ⟨hb, hr, hs ▸ hr, hi, hg⟩

/-- A quiet cycle's inputs for one lane, with the RX word of CGS. -/
def quiet : CycleInputs :=
  { txRst := false, txResync := false, txJref := false, jsync := false, txIn := [[1, 2, 3, 4]], rxRst := false, rxResync := false,
    rxJref := false, rxIn := [List.replicate 4 0x1BC] }
/-- The state `at' l r` about to run these cycles. -/
def running (l : TxLane) (r : RxLane) (inps : List CycleInputs) : State := { at' l r with program := inps.map Item.cycle }
/-- A TX lane in SEND_DATA and an RX lane in RECEIVE_DATA. -/
def txD : TxLane := { tx0 with state := 2, scrOut := [0xFC, 0xFC, 0x7C, 0x7C], frCnt := 4, syncLoss := 2 }
def rxD : RxLane := { rx0 with state := 3, dscrOut := [1, 2, 3, 4], dscrValid := true, alOff := 3 }
/-- SEND_DATA and RECEIVE_DATA, with one cycle to run. -/
def dataRun (inp : CycleInputs) : State := running txD rxD [inp]

theorem inv_running : Inv (running tx0 rx0 [quiet]) :=
  inv_of _ builtLink rfl built_ok (by unfold Regs.ok TxLane.ok RxLane.ok; decide +kernel)
    (by unfold Inputs.ok; decide +kernel) (by unfold Sig.ok; decide +kernel) rfl

theorem inv_dataRun (inp : CycleInputs) : Inv (dataRun inp) :=
  inv_of _ builtLink rfl built_ok
    (show Regs.ok builtLink (at' txD rxD).cur by unfold Regs.ok TxLane.ok RxLane.ok; decide +kernel)
    (show Inputs.ok builtLink (at' txD rxD).inp by unfold Inputs.ok; decide +kernel)
    (show Sig.ok builtLink (at' txD rxD).sig by unfold Sig.ok; decide +kernel) rfl

theorem txAt_data : TxAt (at' txD rxD) builtLink 0 txD := ⟨rfl, rfl, by decide⟩
theorem rxAt_data : RxAt (at' txD rxD) builtLink 0 rxD := ⟨rfl, rfl, by decide +kernel⟩

theorem runs_of (o : Out) (h : (next? o).isSome = true) : ∃ t, o = .next t := by
  cases o with
  | next t => exact ⟨t, rfl⟩
  | fault _ => simp [next?] at h
  | refused _ => simp [next?] at h

theorem witness_SymbolOperationsPresentTheirSymbol :
    built.inp.rxIn[0]? = some (List.replicate 4 Sym.zero) ∧ 3 < (List.replicate 4 Sym.zero).length := by decide +kernel
theorem witness_ReservedSymbolsHaveNoMeaning_received :
    namedControl 0x50 = false ∧ (⟨true, 0x50⟩ : Sym) ∈ [cK, cK, ⟨true, 0x50⟩, cK] ∧ (⟨true, 0x50⟩ : Sym) ∉ [cR, dat 1, dat 2, dat 3]
      ∧ { rx0 with icIn := [cK, cK, ⟨true, 0x50⟩, cK] }.icIn = [cK, cK, ⟨true, 0x50⟩, cK] := by decide +kernel
theorem witness_ReservedSymbolsHaveNoMeaning_sent :
    Inv (dataRun quiet) ∧ (∃ t, step (dataRun quiet) = .next t)
      ∧ (next? (step (dataRun quiet))).map (fun t => t.sig.tx.map TxSig.out)
        = some [[dat 0xFC, ⟨true, 0xFC⟩, dat 0x7C, ⟨true, 0x7C⟩]] :=
  ⟨inv_dataRun quiet, runs_of _ (by decide +kernel), by decide +kernel⟩
theorem witness_SelectBitsAreTotal :
    Port.lmfc ≠ .cfgop ∧ decodeSel .lmfc 3 1 0 = .ok (.lmfcReset .rx true) ∧ decodeSel .lmfc 4 1 0 = .error .reservedBits
      ∧ decodeSel .sym 511 0 0 = .ok (.symReserved 0 0 0xFF) ∧ decodeSel .sym 512 0 0 = .error .reservedBits
      ∧ decodeSel .txAgg 0 0 0 = .ok .txAgg ∧ decodeSel .txAgg 1 0 0 = .error .reservedBits := ⟨by decide, rfl, rfl, rfl, rfl, rfl, rfl⟩
theorem witness_DecodeOfEncode :
    Instr.wf (.cfgDeserialize (List.replicate 14 65535)) = true ∧ Instr.wf (.symReserved 31 65535 0xFF) = true
      ∧ Instr.wf (.cfgSetField .K 4294967295) = true ∧ Instr.wf (.alignInsPass 31 65535 13) = true := by decide +kernel
theorem witness_DecodedRecordsAreEncodings :
    decode .sym [0x1C, 1, 31, 0xFF, 0xFF, 0, 0] = .ok (.symR 31 65535) := by rfl

/-- The state that presents a record. -/
def presenting (p : Port) (b : List Octet) (s : State) : State := { s with program := [.op p b] }

theorem witness_StepRunsTheDecodedRecord_next :
    decode .txFsm [0, 0] = .ok (.txSendCgs 0) ∧ ∃ t, exec (.txSendCgs 0) { presenting .txFsm [0, 0] built with program := [] } = .next t :=
  ⟨rfl, runs_of _ (by decide +kernel)⟩
theorem witness_StepRunsTheDecodedRecord_fault :
    decode .cfgop [6] = .ok (.cfgReserved false)
      ∧ exec (.cfgReserved false) { presenting .cfgop [6] State.reset with program := [] } = .fault .cfgopReserved := ⟨rfl, rfl⟩
theorem witness_StepRunsTheDecodedRecord_refused :
    decode .txFsm [0, 0] = .ok (.txSendCgs 0)
      ∧ exec (.txSendCgs 0) { presenting .txFsm [0, 0] State.reset with program := [] } = .refused .linkNotBuilt := ⟨rfl, rfl⟩
theorem witness_SetFieldWritesOnlyItsBits :
    (fieldDescr .L).isCount = true ∧ 1 ≤ 32 ∧ 32 - 1 < 2 ^ (fieldDescr .L).width
      ∧ ¬ (33 - 1 < 2 ^ (fieldDescr .L).width) ∧ ¬ (1 ≤ 0) ∧ (fieldDescr .DID).isCount = false ∧ 255 < 2 ^ (fieldDescr .DID).width
      ∧ ¬ (256 < 2 ^ (fieldDescr .DID).width) := by decide +kernel
theorem witness_FieldsAreIndependent :
    setField .PHADJ 1 exampleCfg = .ok (exampleCfg.set 2 0x20) ∧ Field.LID ≠ .PHADJ := ⟨eq_ok (by decide +kernel), by decide⟩

theorem witness_RecomputeValidatesThenWrites :
    getField .F exampleCfg = 2 ∧ getField .M exampleCfg * getField .S exampleCfg * getField .NP exampleCfg = 8 * 2 * getField .L exampleCfg
      ∧ getField .F (setF .F 3 exampleCfg) = 3 ∧ getField .F (setF .F 4 exampleCfg) = 4
      ∧ getField .M (setF .F 4 exampleCfg) * getField .S (setF .F 4 exampleCfg) * getField .NP (setF .F 4 exampleCfg) = 16 := by
  decide +kernel
theorem witness_DeserializeChecksThenLoads :
    (s19.length = 14 ∧ ∀ x ∈ s19, x < 256) ∧ exampleCfg.toList.map BitVec.toNat = s19
      ∧ checksum .octets exampleCfg = memReadCfg exampleCfg 13
      ∧ checksum .octets (exampleCfg.set 13 0x47) ≠ memReadCfg (exampleCfg.set 13 0x47) 13
      ∧ ¬ ((s19.set 0 256).length = 14 ∧ ∀ x ∈ s19.set 0 256, x < 256) := by decide +kernel
theorem witness_SerializeRoundTrip :
    recompute .fields exampleCfg = .ok (exampleCfg.set 13 0x89) := eq_ok (by decide +kernel)
theorem witness_ConfigErrorsLeaveAllAsItWas :
    Instr.port .cfgLinkBuild = .cfgop ∧ (next? (exec .cfgLinkBuild (withCfg zeros))).map State.reply = cfgErr .F_UNSUPPORTED := by
  decide +kernel

/-- What each check of `link_build` needs: `OPC mod F`, `K mod FPC`, `K·F`, `K / FPC`. -/
def checks (c : Settings) (dw : Nat) : Nat × Nat × Nat × Nat :=
  let f := getField .F c
  let k := getField .K c
  ((dw / 8) % f, k % (dw / 8 / f), k * f, k / (dw / 8 / f))

theorem witness_LinkBuildChecksInOrder :
    checks exampleCfg 32 = (0, 0, 20, 5) ∧ checks exampleCfg 8 = (1, 10, 20, 0) ∧ checks exampleCfg 64 = (0, 2, 20, 2)
      ∧ checks (setF .K 4 cfgF4) 32 = (0, 0, 16, 4) ∧ checks (cfgF1 17) 8 = (0, 0, 17, 17) ∧ checks (cfgF1 32) 256 = (0, 0, 32, 1)
      ∧ (∀ n < getField .L exampleCfg, Params.ofExamples.lid n < 32)
      ∧ ∃ n < getField .L exampleCfg, 32 ≤ ({ Params.ofExamples with lids := [32] } : Params).lid n := by decide +kernel
/-- For LanesCarryTheirOwnLid. -/
theorem witness_LanesCarryTheirOwnLid :
    linkBuild Params.ofExamples exampleCfg = .ok builtLink ∧ 0 < builtLink.lanes
      ∧ Params.ofExamples.lid 0 = getField .LID exampleCfg ∧ Params.ofExamples.lid 1 ≠ getField .LID exampleCfg
      ∧ memReadCfg exampleCfg 13 = checksum .octets exampleCfg :=
  ⟨built_ok, by decide +kernel, by decide +kernel, by decide +kernel, by decide +kernel⟩
theorem witness_ImportOfExport :
    recompute .octets exampleCfg = .ok exampleCfg ∧ memReadCfg exampleCfg 2 &&& 0x80 = 0
      ∧ memReadCfg exampleCfg 3 &&& 0x60 = 0 ∧ memReadCfg exampleCfg 7 &&& 0x20 = 0 ∧ memReadCfg exampleCfg 10 &&& 0x60 = 0 :=
  ⟨eq_ok (by decide +kernel), by decide +kernel⟩
theorem witness_BuiltLinksAreExact :
    linkBuild Params.ofExamples exampleCfg = .ok builtLink ∧ lastMf builtLink { tx0 with frCnt := 4 } 3 = true :=
  ⟨built_ok, by decide +kernel⟩
theorem witness_EnginesNeedABuiltLink :
    State.reset.link = none ∧ Instr.port (.txSendCgs 0) ≠ .sym ∧ Instr.port (.txSendCgs 0) ≠ .cfgop
      ∧ ∀ n, Instr.txSendCgs 0 ≠ .txIllegal n := ⟨rfl, by decide, by decide, fun _ h => by cases h⟩
theorem witness_EnginesNeverChangeTheSettings :
    Instr.port (.scrStep 0) ≠ .cfgop ∧ (∃ t, exec (.scrStep 0) built = .next t)
      ∧ (dataRun quiet).program = [.cycle quiet] ∧ ∃ t, step (dataRun quiet) = .next t :=
  ⟨by decide, runs_of _ (by decide +kernel), rfl, runs_of _ (by decide +kernel)⟩
theorem witness_LmfcDividerStep :
    (lmfcAt 4 false true false).link.isSome = true ∧ ((lmfcAt 4 false true false).lmfc .tx).count < builtLink.c
      ∧ built.link = some builtLink ∧ (built.lmfc .rx).count < builtLink.c := ⟨rfl, by decide +kernel, rfl, by decide +kernel⟩
/-- For ScramblerStep, FramerStep, AlignInserterFlags, CgsAndStartCheckers, IlasGeneratorStep, TxStateMachine and DesyncTimerAndTxCounter. -/
theorem witness_TxLane :
    TxAt (at' txD rxD) builtLink 0 txD ∧ 3 < builtLink.opc ∧ memReadIlas builtLink 0 txD.ilasIdx = some [cR, dat 1, dat 2, dat 3] :=
  ⟨txAt_data, by decide +kernel, by decide +kernel⟩
/-- For DescramblerStep, ReplacerAndDeframerRecoverTheData, CgsAndStartCheckers, IlasCheckerStep, RxStateMachine and RxCounters. -/
theorem witness_RxLane :
    RxAt (at' txD rxD) builtLink 0 rxD ∧ memReadIlas builtLink 0 rxD.icIdx = some [cR, dat 1, dat 2, dat 3] :=
  ⟨rxAt_data, by decide +kernel⟩
/-- Boundary positions of ScramblingIsTheSerialEquation and DescramblerSynchronizesItself. -/
theorem witness_ScramblingIsTheSerialEquation :
    31 < 8 * ([1, 2, 3, 4] : DataWord).length ∧ 2 ≤ ([[1], [2]] : List DataWord).flatten.length ∧ 15 ≤ 15 := by decide +kernel
theorem witness_AlignInserterFlags :
    txD.scrOut[3]? = some 0x7C ∧ TxAt (at' txD rxD) builtLink 0 txD ∧ 3 < builtLink.opc := ⟨rfl, txAt_data, by decide +kernel⟩
theorem witness_AlignerStep :
    RxAt (withRxIn [dat 0, dat 0, dat 0, cR] (at' txD rxD)) builtLink 0 rxD
      ∧ ((withRxIn [dat 0, dat 0, dat 0, cR] (at' txD rxD)).rxWord 0)[3]? = some (⟨true, 0x1C⟩ : Sym)
      ∧ (∀ j < 3, ¬ ((withRxIn [dat 0, dat 0, dat 0, cR] (at' txD rxD)).rxWord 0)[j]? = some (⟨true, 0x1C⟩ : Sym))
      ∧ (at' txD rxD).inp.rxRst = false ∧ (withRxCtl true false (at' txD rxD)).inp.rxRst = true :=
  ⟨⟨rfl, rfl, by decide +kernel⟩, rfl, by decide, rfl, rfl⟩
theorem witness_AlignerStep_no_R :
    ∀ j : Nat, ¬ ((at' txD rxD).rxWord 0)[j]? = some (⟨true, 0x1C⟩ : Sym) := by
  show ∀ j : Nat, ¬ (List.replicate 4 Sym.zero)[j]? = some (⟨true, 0x1C⟩ : Sym)
  intro j h
  exact absurd (List.mem_of_getElem? h) (by decide)
theorem witness_AlignerUndoesSubWordSkew :
    cgs4.length = 4 ∧ [cR, dat 1, dat 2, dat 3].length = 4 ∧ 3 < 4 ∧ 0 < 4 := by decide +kernel
theorem witness_IlasTableContent :
    linkBuild Params.ofExamples exampleCfg = .ok builtLink ∧ builtLink.laneCfg[0]? = some exampleCfg ∧ 19 < builtLink.k * builtLink.f :=
  ⟨built_ok, by decide +kernel, by decide +kernel⟩

/-- CFG-B, two lanes with LID 0 and 1 (95_test_vectors.md B21). -/
def cfgB : Settings := #v[0x00, 0x00, 0x00, 0x81, 0x02, 0x09, 0x01, 0x0F, 0x2F, 0x20, 0x00, 0x00, 0x00, 0xEB]
/-- The built link of CFG-B. -/
def linkB : Link := (ok? (linkBuild Params.ofExamples cfgB)).getD noLink
theorem builtB_ok : linkBuild Params.ofExamples cfgB = .ok linkB := ok_of _ _ (by decide +kernel)
/-- CFG-B built, with these lanes and one cycle to run. -/
def runB (tx : List TxLane) (rx : List RxLane) (inp : CycleInputs) : State :=
  let s := instantiate linkB { State.reset with cfg := cfgB }
  { s with cur := { s.cur with tx := tx, rx := rx }, nxt := { s.nxt with tx := tx, rx := rx }, program := [.cycle inp] }
/-- A cycle for two lanes. -/
def quietB : CycleInputs :=
  { quiet with txIn := [[1, 2, 3, 4], [5, 6, 7, 8]], rxIn := [List.replicate 4 0x1BC, List.replicate 4 0x11C] }

theorem witness_LaneTablesDifferInLidAndChecksumOnly :
    linkBuild Params.ofExamples cfgB = .ok linkB ∧ linkB.lanes = 2 ∧ 5 ≠ linkB.c + 4 / linkB.opc
      ∧ 5 ≠ linkB.c + 15 / linkB.opc ∧ memReadIlas linkB 0 6 ≠ memReadIlas linkB 1 6 ∧ memReadIlas linkB 0 8 ≠ memReadIlas linkB 1 8 :=
  ⟨builtB_ok, by decide +kernel⟩
theorem witness_StartCheckerAcceptsMultiframeStarts :
    linkBuild Params.ofExamples exampleCfg = .ok builtLink ∧ memReadIlas builtLink 0 5 = some [cR, ⟨true, 0x9C⟩, dat 0x5A, dat 3]
      ∧ memReadIlas builtLink 0 15 = some [cR, dat 0x3D, dat 0x3E, dat 0x3F] := ⟨built_ok, by decide +kernel, by decide +kernel⟩
/-- For AggregatesAreTheAndOfTheLanes (the link) and TxStateMachine's three states. -/
theorem witness_TxStateMachine :
    (at' txD rxD).link = some builtLink ∧ tx0.state = 0 ∧ ({ tx0 with state := 1 } : TxLane).state = 1 ∧ txD.state = 2 :=
  ⟨rfl, rfl, rfl, rfl⟩
theorem witness_RxStateMachine :
    rx0.state = 0 ∧ ({ rx0 with state := 1 } : RxLane).state = 1 ∧ ({ rx0 with state := 2 } : RxLane).state = 2 ∧ rxD.state = 3
      ∧ memReadIlas builtLink 0 rx0.icIdx = some [cR, dat 1, dat 2, dat 3] := by decide +kernel
theorem witness_IllegalStatesFault :
    (at' { tx0 with state := 3 } rx0).cur.tx[0]? = some { tx0 with state := 3 } ∧ TxAt (withTxCount 5 built) builtLink 0 tx0
      ∧ builtLink.c ≤ (withTxCount 5 built).cur.txLmfc.count ∧ RxAt (withRxCount 5 built) builtLink 0 rx0
      ∧ builtLink.c ≤ (withRxCount 5 built).cur.rxLmfc.count ∧ builtLink.opc ≤ ({ rx0 with alOff := 4 } : RxLane).alOff
      ∧ (at' tx0 { rx0 with alOff := 4 }).cur.rx[0]? = some { rx0 with alOff := 4 }
      ∧ TxAt (at' { tx0 with ilasIdx := 20 } rx0) builtLink 0 { tx0 with ilasIdx := 20 }
      ∧ RxAt (at' tx0 { rx0 with icIdx := 20 }) builtLink 0 { rx0 with icIdx := 20 } ∧ builtLink.len = 20 :=
  ⟨rfl, ⟨rfl, rfl, by decide⟩, by decide +kernel, ⟨rfl, rfl, by decide +kernel⟩, by decide +kernel, by decide +kernel, rfl,
   ⟨rfl, rfl, by decide⟩, ⟨rfl, rfl, by decide +kernel⟩, by decide +kernel⟩
theorem witness_InvariantIsKept :
    Inv (dataRun quiet) ∧ ∃ t, step (dataRun quiet) = .next t := ⟨inv_dataRun quiet, runs_of _ (by decide +kernel)⟩
theorem witness_CycleIsTheSimultaneousUpdate :
    Inv (dataRun quiet) ∧ (dataRun quiet).link = some builtLink ∧ (dataRun quiet).program = [.cycle quiet]
      ∧ fits builtLink.opc builtLink.lanes quiet = true := ⟨inv_dataRun quiet, rfl, rfl, by decide +kernel⟩
theorem witness_ComponentOrderDoesNotMatter :
    Consistent (dataRun quiet) ∧ (⟨.txFsm, 0, 0⟩ : Instance) ∈ cycleInstances builtLink.opc builtLink.lanes
      ∧ (⟨.alignIns, 0, 3⟩ : Instance) ∈ cycleInstances builtLink.opc builtLink.lanes :=
  ⟨(inv_dataRun quiet).1, by decide +kernel, by decide +kernel⟩
theorem witness_RunningEnginesNeverStop :
    Inv (dataRun quiet) ∧ (dataRun quiet).link = some builtLink ∧ ∀ inp ∈ [quiet], fits builtLink.opc builtLink.lanes inp = true :=
  ⟨inv_dataRun quiet, rfl, by decide +kernel⟩

/-- A cycle with every reset and resync request. -/
def resets : CycleInputs := { quiet with txRst := true, rxRst := true, txResync := true, rxResync := true }

theorem witness_RstResetsEveryRegister :
    Inv (dataRun resets) ∧ (dataRun resets).program = [.cycle resets] ∧ resets.txRst = true ∧ resets.rxRst = true
      ∧ (∃ t, step (dataRun resets) = .next t) ∧ ∃ t, step { dataRun resets with program := [.cycle { resets with txRst := false, rxRst := false }] } = .next t :=
  ⟨inv_dataRun resets, rfl, rfl, rfl, runs_of _ (by decide +kernel), runs_of _ (by decide +kernel)⟩
theorem witness_ResyncTouchesStatesOnly :
    Inv (dataRun resets) ∧ resets.txResync = true ∧ resets.rxResync = true ∧ (∃ t, step (dataRun resets) = .next t)
      ∧ ∃ t, step { dataRun resets with program := [.cycle { resets with txResync := false, rxResync := false }] } = .next t :=
  ⟨inv_dataRun resets, rfl, rfl, runs_of _ (by decide +kernel), runs_of _ (by decide +kernel)⟩

theorem inv_runB (n : BitVec 2) (hn : n = 0 ∨ n = 2) (inp : CycleInputs) : Inv (runB [txD, { txD with state := n }] [rxD, rx0] inp) :=
  inv_of _ linkB rfl builtB_ok
    (by rcases hn with rfl | rfl <;>
          exact (show Regs.ok linkB (runB _ _ quietB).cur by unfold Regs.ok TxLane.ok RxLane.ok; decide +kernel))
    (show Inputs.ok linkB (runB [] [] quietB).inp by unfold Inputs.ok; decide +kernel)
    (show Sig.ok linkB (runB [] [] quietB).sig by unfold Sig.ok; decide +kernel) rfl

theorem witness_LanesAreIndependent :
    Inv (runB [txD, { txD with state := 0 }] [rxD, rx0] quietB) ∧ Inv (runB [txD, { txD with state := 2 }] [rxD, rx0] quietB)
      ∧ runB [txD, { txD with state := 0 }] [rxD, rx0] quietB ≠ runB [txD, { txD with state := 2 }] [rxD, rx0] quietB
      ∧ (∃ t, step (runB [txD, { txD with state := 0 }] [rxD, rx0] quietB) = .next t)
      ∧ ∃ t, step (runB [txD, { txD with state := 2 }] [rxD, rx0] quietB) = .next t :=
  ⟨inv_runB 0 (.inl rfl) quietB, inv_runB 2 (.inr rfl) quietB, by decide +kernel, runs_of _ (by decide +kernel), runs_of _ (by decide +kernel)⟩
theorem witness_LmfcRunsFreely :
    Inv (dataRun quiet) ∧ quiet.txRst = false ∧ quiet.txJref = false ∧ quiet.rxRst = false ∧ quiet.rxJref = false
      ∧ ∃ t, Host.Core.run Sys2Proof.core 1 { dataRun quiet with program := [.cycle quiet] } = .next t :=
  ⟨inv_dataRun quiet, rfl, rfl, rfl, rfl, runs_of _ (by decide +kernel)⟩

/-- F = 4, M = 2, K = 8 at DW = 128: OPC 16, FPC 4, C 2, LEN 8. -/
def cfgC : Settings := setF .K 8 cfgF4
def parC : Params := { Params.ofExamples with dw := 128 }
def linkC : Link := (ok? (linkBuild parC cfgC)).getD noLink
theorem builtC_ok : linkBuild parC cfgC = .ok linkC := ok_of _ _ (by decide +kernel)
/-- A lane's ILAS entry on that link. -/
def entryC (e : Nat) : LinkWord := (memReadIlas linkC 0 e).getD (List.replicate 16 Sym.zero)
/-- That link, both lanes in their first ILAS cycle: the checker holds entry 0 and the Aligner entry 1. -/
def runC (inps : List CycleInputs) : State :=
  let s := instantiate linkC { State.reset with cfg := cfgC, params := parC }
  let l : TxLane := { TxLane.reset 16 with state := 1 }
  let m : RxLane := { RxLane.reset 16 with state := 2, icIn := entryC 0, alPrev := entryC 1 }
  { s with cur := { s.cur with tx := [l], rx := [m] }, nxt := { s.nxt with tx := [l], rx := [m] }, program := inps.map Item.cycle }
/-- Cycle `k` of it: entry `k + 2` arrives. -/
def cycleC (k : Nat) : CycleInputs := { quiet with txIn := [List.replicate 16 0], rxIn := [(entryC (k + 2)).map codeOf] }
theorem inv_runC (inps : List CycleInputs) : Inv (runC inps) :=
  inv_of _ linkC rfl builtC_ok
    (show Regs.ok linkC (runC []).cur by unfold Regs.ok TxLane.ok RxLane.ok; decide +kernel)
    (show Inputs.ok linkC (runC []).inp by unfold Inputs.ok; decide +kernel)
    (show Sig.ok linkC (runC []).sig by unfold Sig.ok; decide +kernel) rfl
/-- Cycles 0 to 7. -/
def cyclesC : List CycleInputs := (List.range 8).map cycleC
/-- The ILAS checker matches in the cycle after `k` cycles. -/
def matchesC (k : Nat) : Bool :=
  ((next? (Host.Core.run Sys2Proof.core k (runC cyclesC))).bind (fun u => u.cur.rx[0]?)).all (icMatches linkC 0)

theorem witness_IlasLastsFourMultiframes :
    Inv (runC cyclesC) ∧ linkC.params.strictIlas = true ∧ 4 * linkC.c = 8 ∧ cyclesC.length = 8
      ∧ (runC cyclesC).cur.tx[0]? = some { TxLane.reset 16 with state := 1 }
      ∧ (runC cyclesC).cur.rx.map (fun l => (l.state, l.icIdx)) = [(2, 0)]
      ∧ (∀ k u x, k < 8 → Host.Core.run Sys2Proof.core k (runC cyclesC) = .next u → u.cur.rx[0]? = some x → icMatches linkC 0 x = true)
      ∧ (∃ t, Host.Core.run Sys2Proof.core 1 (runC [cycleC 0]) = .next t)
      ∧ ∃ t, Host.Core.run Sys2Proof.core 8 (runC cyclesC) = .next t := by
  refine ⟨inv_runC _, by decide +kernel, by decide +kernel, by decide, by decide +kernel, by decide +kernel, ?_,
    runs_of _ (by decide +kernel), runs_of _ (by decide +kernel)⟩
  intro k u x hk hu hx
  have h : ∀ k < 8, matchesC k = true := by decide +kernel
  have hm := h k hk
  rw [matchesC, hu] at hm
  change Option.all (icMatches linkC 0) (State.cur u).rx[0]? = true at hm
  rw [hx] at hm
  exact hm
theorem witness_DataPathIsGatedByTheStates :
    Inv (dataRun quiet) ∧ (∃ t, step (dataRun quiet) = .next t) ∧ (dataRun quiet).cur.tx[0]? = some txD ∧ txD.state = 2
      ∧ quiet.txRst = false ∧ quiet.txIn[0]? = some [1, 2, 3, 4] ∧ Inv (running tx0 rx0 [quiet]) ∧ tx0.state ≠ 2 ∧ rx0.state ≠ 3
      ∧ ∃ t, step (running tx0 rx0 [quiet]) = .next t :=
  ⟨inv_dataRun quiet, runs_of _ (by decide +kernel), rfl, rfl, rfl, rfl, inv_running, by decide, by decide, runs_of _ (by decide +kernel)⟩

theorem witness_SettingsWritesDropTheBuiltLink :
    built.link = some builtLink ∧ (next? (exec (.cfgSetField .DID 1) built)).map (fun t => (t.reply, t.link, decide (t.cfg ≠ built.cfg)))
        = some (.done, none, true)
      ∧ (next? (exec (.cfgSetField .DID 256) built)).map (fun t => (t.reply, t.link)) = some (.error (.rangeError (some .DID)), some builtLink) :=
  ⟨rfl, by decide +kernel⟩

end Sys2Proof.Tests
end

section
/-! What a step does with a presented record (30_encoding.md R105; log 1, log 26). -/

namespace Sys2Proof.Machine

open Sys2Proof

/-- A record at the head of the program is taken off it and run. -/
theorem step_op {s : State} {p : Port} {b : List Octet} {rest : List Item} (hp : s.program = .op p b :: rest) :
    step s = runRecord p b { s with program := rest } := by
  simp only [step, present, hp]

/-- A record that decodes runs the operation it names, and then the clock edge. -/
theorem runRecord_of_decode {p : Port} {b : List Octet} {i : Instr} (hd : decode p b = .ok i) (s : State) :
    runRecord p b s = andThen (exec i s) fun t => .next (clockEdge t) := by
  simp only [runRecord, hd]

/-- A record that decodes, at the head of the program: the step is its operation, and then the clock edge. -/
theorem step_op_of_decode {s : State} {p : Port} {b : List Octet} {rest : List Item} {i : Instr}
    (hp : s.program = .op p b :: rest) (hd : decode p b = .ok i) :
    step s = andThen (exec i { s with program := rest }) fun t => .next (clockEdge t) :=
  (step_op hp).trans (runRecord_of_decode hd _)

end Sys2Proof.Machine

namespace Sys2Proof.Proofs

open Sys2Proof Sys2Proof.Machine

/-- Settles O8: the step is `exec i` and then the clock edge, and each of the three outcomes of `exec i` passes through `andThen`. -/
theorem stepRunsTheDecodedRecord : Obligations.StepRunsTheDecodedRecord := by
  intro s p b rest i hp hd
  rw [step_op_of_decode hp hd]
  refine ⟨fun t ht => ?next, fun r hr => ?fault, fun r hr => ?refused⟩
  case next => rw [ht, andThen_next_left, clockEdge]
  case fault => rw [hr, andThen_fault_left]
  case refused => rw [hr, andThen_refused_left]

end Sys2Proof.Proofs
end

section
/-! What a built link guarantees (41_link_settings.md R134), and the lengths of the words the components compute (20_memory.md R70). -/

namespace Sys2Proof.Machine

open Sys2Proof

/-! ## Bounds of a built link -/

/-- The checks DW, ILAS_SHORT and LOAD of `link_build` (R134), as bounds on the link it gives. -/
theorem linkBuild_bounds {p : Params} {c : Settings} {lk : Link} (h : linkBuild p c = .ok lk) :
    0 < lk.opc ∧ 2 ≤ lk.c ∧ lk.params.lmfcLoad < lk.c := by
  obtain ⟨rfl, rfl⟩ := linkBuild_params_cfg h
  simp only [linkBuild] at h
  split at h
  · cases h
  rename_i hdw
  split at h
  · cases h
  split at h
  · cases h
  split at h
  · cases h
  split at h
  · cases h
  rename_i hshort
  split at h
  · cases h
  rename_i hload
  have hc : lk.c = getField .K lk.cfg / (lk.params.opc / getField .F lk.cfg) := rfl
  have hopc : lk.opc = lk.params.dw / 8 := rfl
  rw [← hc] at hshort hload
  omega

theorem Link.len_pos {lk : Link} (h : 2 ≤ lk.c) : 0 < lk.len := by
  have : lk.len = 4 * lk.c := rfl
  omega

/-- A saturating counter stays in CNT_WIDTH bits (R258, R268). -/
theorem satInc_lt (lk : Link) (x : Nat) : satInc lk x < 2 ^ lk.params.cntWidth := by
  have : 0 < 2 ^ lk.params.cntWidth := Nat.two_pow_pos _
  simp only [satInc]
  omega

/-- The saturating step of an ILAS index stays in the table (R224, R228). -/
theorem nextIndex_lt {lk : Link} (h : 0 < lk.len) (x : Nat) : nextIndex lk x < lk.len := by
  simp only [nextIndex]
  omega

/-! ## Lengths of words -/

theorem packOctets_length (b : List Bool) : (packOctets b).length = b.length / 8 := by
  induction b using packOctets.induct with
  | case1 b7 b6 b5 b4 b3 b2 b1 b0 t ih =>
    simp only [packOctets, List.length_cons, ih]
    omega
  | case2 b h =>
    have hb : b.length < 8 := by
      by_contra hlong
      match b, h with
      | [], _ | [_], _ | [_, _], _ | [_, _, _], _ | [_, _, _, _], _ | [_, _, _, _, _], _ | [_, _, _, _, _, _], _
      | [_, _, _, _, _, _, _], _ => simp at hlong
      | _ :: _ :: _ :: _ :: _ :: _ :: _ :: _ :: _, h => exact h _ _ _ _ _ _ _ _ _ rfl
    rw [packOctets, List.length_nil, Nat.div_eq_of_lt hb]
    exact h

@[simp] theorem swz_length (w : DataWord) : (swz w).length = w.length := List.length_reverse

@[simp] theorem bitsDown_length (w : DataWord) : (bitsDown w).length = 8 * w.length := by
  simp [bitsDown, List.length_flatMap, octetBits, Nat.mul_comm]

@[simp] theorem ofBitsDown_length (b : List Bool) : (ofBitsDown b).length = b.length / 8 := by
  simp [ofBitsDown, packOctets_length]

theorem scrLoop_length (d full : List Bool) : (scrLoop d full).length = d.length + full.length := by
  induction d generalizing full with
  | nil => simp [scrLoop]
  | cons b t ih => simp only [scrLoop, ih, List.length_cons]; omega

theorem dscrLoop_length (b full : List Bool) : (dscrLoop b full).length = b.length := by
  induction b generalizing full with
  | nil => rfl
  | cons x t ih => simp [dscrLoop, ih]

@[simp] theorem scramble_length (st : BitVec 15) (w : DataWord) : (scramble st w).1.length = w.length := by
  simp [scramble, scrLoop_length]

@[simp] theorem descramble_length (st : BitVec 15) (w : DataWord) : (descramble st w).1.length = w.length := by
  simp [descramble, dscrLoop_length]

theorem lowestR_lt {j k : Nat} {w : LinkWord} (h : lowestR j w = some k) : k < j + w.length := by
  induction w generalizing j with
  | nil => simp [lowestR] at h
  | cons x t ih =>
    simp only [lowestR] at h
    split at h
    · simp only [Option.some.injEq] at h
      simp only [List.length_cons]
      omega
    · have := ih h
      simp only [List.length_cons]
      omega

theorem alignSlice_length {opc off : Nat} {prev cur : LinkWord} (hp : prev.length = opc) (hc : cur.length = opc) (ho : off < opc) :
    (alignSlice opc off prev cur).length = opc := by
  simp only [alignSlice, List.length_take, List.length_drop, List.length_append, hp, hc]
  omega

theorem rxDataWord_length (lk : Link) (s : State) (n : Nat) (l : RxLane) :
    (rxDataWord lk s n l).length = (alignedWord lk s n l).length := by
  simp [rxDataWord, deframe, replaceFlags, LinkWord.data]

/-! ## Input words -/

theorem Inputs.ok.txWord_length {lk : Link} {s : State} (h : s.inp.ok lk) {n : Nat} (hn : n < lk.lanes) :
    (s.txWord n).length = lk.opc := by
  obtain ⟨htx, -, hw, -⟩ := h
  rw [← htx] at hn
  simp only [State.txWord, List.getD_eq_getElem _ _ hn]
  exact hw _ (List.getElem_mem hn)

theorem Inputs.ok.rxWord_length {lk : Link} {s : State} (h : s.inp.ok lk) {n : Nat} (hn : n < lk.lanes) :
    (s.rxWord n).length = lk.opc := by
  obtain ⟨-, hrx, -, hw⟩ := h
  rw [← hrx] at hn
  simp only [State.rxWord, List.getD_eq_getElem _ _ hn]
  exact hw _ (List.getElem_mem hn)

/-! ## The state registers never take the code 11 on the TX side (R37, R252) -/

theorem orFallBack_ne_illegal {rst resync : Bool} {own : BitVec 2} (h : own ≠ 3) : orFallBack rst resync own ≠ 3 := by
  unfold orFallBack
  split
  · decide
  · split
    · decide
    · exact h

theorem nextSendCgs_ne_illegal (s : State) : nextSendCgs s ≠ 3 :=
  orFallBack_ne_illegal (by split <;> decide)

theorem nextSendIlas_ne_illegal (lk : Link) (s : State) (l : TxLane) : nextSendIlas lk s l ≠ 3 :=
  orFallBack_ne_illegal (by split <;> decide)

theorem nextSendData_ne_illegal (lk : Link) (s : State) (l : TxLane) : nextSendData lk s l ≠ 3 :=
  orFallBack_ne_illegal (by split <;> decide)

end Sys2Proof.Machine
end

section
/-! Ranges of the registers (10_state.md R33 to R36): one rule per register written, and the reset values. -/

namespace Sys2Proof.Machine

open Sys2Proof

/-! ## TX lane -/

section
variable {lk : Link} {l : TxLane} (h : l.ok lk)
include h

theorem TxLane.ok.set_state {v : BitVec 2} (hv : v ≠ 3) : TxLane.ok lk { l with state := v } := ⟨hv, h.2⟩

theorem TxLane.ok.set_ilasIdx {v : Nat} (hv : v < lk.len) : TxLane.ok lk { l with ilasIdx := v } := ⟨h.1, hv, h.2.2⟩

theorem TxLane.ok.set_scr {st : BitVec 15} {w : DataWord} {valid : Bool} (hw : w.length = lk.opc) :
    TxLane.ok lk { l with scrState := st, scrOut := w, scrValid := valid } := by
  obtain ⟨hstate, hidx, -, hrest⟩ := h
  exact ⟨hstate, hidx, hw, hrest⟩

theorem TxLane.ok.set_frCnt {v : Nat} (hv : v < lk.c) : TxLane.ok lk { l with frCnt := v } := by
  obtain ⟨hstate, hidx, hout, -, hrest⟩ := h
  exact ⟨hstate, hidx, hout, hv, hrest⟩

theorem TxLane.ok.set_desyncCnt {v : Nat} (hv : v ≤ lk.params.nDesync) : TxLane.ok lk { l with desyncCnt := v } := by
  obtain ⟨hstate, hidx, hout, hfr, -, hloss⟩ := h
  exact ⟨hstate, hidx, hout, hfr, hv, hloss⟩

theorem TxLane.ok.set_syncLoss {v : Nat} (hv : v < 2 ^ lk.params.cntWidth) : TxLane.ok lk { l with syncLoss := v } := by
  obtain ⟨hstate, hidx, hout, hfr, hdesync, -⟩ := h
  exact ⟨hstate, hidx, hout, hfr, hdesync, hv⟩

end

/-! ## RX lane: no range for the 2-bit state, all of whose codes are states (R37) -/

section
variable {lk : Link} {l : RxLane} (h : l.ok lk)
include h

theorem RxLane.ok.set_state (v : BitVec 2) : RxLane.ok lk { l with state := v } := h

theorem RxLane.ok.set_aligner {w : LinkWord} {v : Nat} (hw : w.length = lk.opc) (hv : v < lk.opc) :
    RxLane.ok lk { l with alPrev := w, alOff := v } := ⟨hw, hv, h.2.2⟩

theorem RxLane.ok.set_checker {w : LinkWord} {v : Nat} (hw : w.length = lk.opc) (hv : v < lk.len) :
    RxLane.ok lk { l with icIn := w, icIdx := v } := by
  obtain ⟨hprev, hoff, -, -, hrest⟩ := h
  exact ⟨hprev, hoff, hw, hv, hrest⟩

theorem RxLane.ok.set_dscr {st : BitVec 15} {w : DataWord} {valid : Bool} (hw : w.length = lk.opc) :
    RxLane.ok lk { l with dscrState := st, dscrOut := w, dscrValid := valid } := by
  obtain ⟨hprev, hoff, hin, hidx, -, hrest⟩ := h
  exact ⟨hprev, hoff, hin, hidx, hw, hrest⟩

theorem RxLane.ok.set_ilasErr {v : Nat} (hv : v < 2 ^ lk.params.cntWidth) : RxLane.ok lk { l with ilasErr := v } := by
  obtain ⟨hprev, hoff, hin, hidx, hout, -, hloss⟩ := h
  exact ⟨hprev, hoff, hin, hidx, hout, hv, hloss⟩

theorem RxLane.ok.set_syncLoss {v : Nat} (hv : v < 2 ^ lk.params.cntWidth) : RxLane.ok lk { l with syncLoss := v } := by
  obtain ⟨hprev, hoff, hin, hidx, hout, herr, -⟩ := h
  exact ⟨hprev, hoff, hin, hidx, hout, herr, hv⟩

end

/-! ## Reset values (R321) -/

theorem TxLane.reset_ok {lk : Link} (hc : 2 ≤ lk.c) : TxLane.ok lk (TxLane.reset lk.opc) := by
  have hlen := Link.len_pos hc
  have hcnt : 0 < 2 ^ lk.params.cntWidth := Nat.two_pow_pos _
  exact ⟨(by decide : (0 : BitVec 2) ≠ 3), hlen, List.length_replicate, by simp only [TxLane.reset]; omega, Nat.zero_le _, hcnt⟩

theorem RxLane.reset_ok {lk : Link} (ho : 0 < lk.opc) (hc : 2 ≤ lk.c) : RxLane.ok lk (RxLane.reset lk.opc) := by
  have hcnt : 0 < 2 ^ lk.params.cntWidth := Nat.two_pow_pos _
  exact ⟨List.length_replicate, ho, List.length_replicate, Link.len_pos hc, List.length_replicate, hcnt, hcnt⟩

theorem Regs.reset_ok {lk : Link} (ho : 0 < lk.opc) (hc : 2 ≤ lk.c) : Regs.ok lk (Regs.reset lk.opc lk.lanes) := by
  have hpos : 0 < lk.c := by omega
  refine ⟨hpos, hpos, List.length_replicate, List.length_replicate, fun l hl => ?_, fun l hl => ?_⟩
  · exact List.eq_of_mem_replicate hl ▸ TxLane.reset_ok hc
  · exact List.eq_of_mem_replicate hl ▸ RxLane.reset_ok ho hc

theorem Inputs.idle_ok (lk : Link) : Inputs.ok lk (Inputs.idle lk.opc lk.lanes) := by
  refine ⟨List.length_replicate, List.length_replicate, fun w hw => ?_, fun w hw => ?_⟩ <;>
    simp [List.eq_of_mem_replicate hw]

theorem Sig.idle_ok (lk : Link) : Sig.ok lk (Sig.idle lk.opc lk.lanes) := by
  refine ⟨List.length_replicate, List.length_replicate, fun x hx => ?_⟩
  simp [List.eq_of_mem_replicate hx, TxSig.idle]

/-! ## A cycle's inputs (R39, R77) -/

/-- Stimulus that fits gives ports in shape. -/
theorem applyInputs_inp_ok {lk : Link} {inp : CycleInputs} (h : fits lk.opc lk.lanes inp = true) (s : State) :
    (applyInputs inp s).inp.ok lk := by
  simp only [fits, Bool.and_eq_true, beq_iff_eq, List.all_eq_true] at h
  obtain ⟨⟨⟨htx, hrx⟩, htxw⟩, hrxw⟩ := h
  refine ⟨htx, by simpa [applyInputs] using hrx, htxw, fun w hw => ?_⟩
  obtain ⟨v, hv, rfl⟩ := List.mem_map.mp hw
  simpa using hrxw v hv

/-- A symbol presented in a slot of a word leaves the ports' shape. -/
theorem Inputs.ok.set_symbol {lk : Link} {i : Inputs} (h : i.ok lk) {n : Nat} {w : LinkWord} (hn : i.rxIn[n]? = some w)
    (j : Nat) (x : Sym) : Inputs.ok lk { i with rxIn := i.rxIn.set n (w.set j x) } := by
  obtain ⟨htx, hrx, htxw, hrxw⟩ := h
  refine ⟨htx, by simpa using hrx, htxw, fun v hv => ?_⟩
  obtain hv | rfl := List.mem_or_eq_of_mem_set hv
  · exact hrxw v hv
  · simpa using hrxw w (List.mem_of_getElem? hn)

end Sys2Proof.Machine
end

section
/-! Consistency (the invariant's first half) and the writes of the machine: one rule per register write, signal drive and
configuration change, and one per guard. -/

namespace Sys2Proof.Machine

open Sys2Proof

theorem forall_mem_modify {α : Type*} {P : α → Prop} {f : α → α} {xs : List α} (hx : ∀ x ∈ xs, P x) (hf : ∀ x, P x → P (f x))
    (n : Nat) : ∀ y ∈ xs.modify n f, P y := by
  intro y hy
  obtain ⟨m, hm⟩ := List.mem_iff_getElem?.mp hy
  rw [List.getElem?_modify] at hm
  obtain ⟨x, hxm, rfl⟩ := Option.map_eq_some_iff.mp hm
  have hxP := hx x (List.mem_of_getElem? hxm)
  split
  · exact hf x hxP
  · exact hxP

/-! ## What a consistent state with a link gives -/

section
variable {s : State} {lk : Link} {n : Nat} (hs : Consistent s)
include hs

theorem Consistent.bounds (hl : s.link = some lk) : 0 < lk.opc ∧ 2 ≤ lk.c ∧ lk.params.lmfcLoad < lk.c :=
  linkBuild_bounds (hs lk hl).1

theorem Consistent.c_pos (hl : s.link = some lk) : 0 < lk.c := Nat.zero_lt_of_lt (hs.bounds hl).2.1

theorem Consistent.len_pos (hl : s.link = some lk) : 0 < lk.len := Link.len_pos (hs.bounds hl).2.1

theorem Consistent.inp_ok (hl : s.link = some lk) : s.inp.ok lk := by
  obtain ⟨-, -, -, hinp, -⟩ := hs lk hl
  exact hinp

/-- A TX lane that an operation reads is in range, and has an input port. -/
theorem Consistent.txLane {l : TxLane} (h : TxAt s lk n l) : l.ok lk ∧ n < lk.lanes := by
  obtain ⟨hl, hn, -⟩ := h
  obtain ⟨-, ⟨-, -, htx, -, hlanes, -⟩, -⟩ := hs lk hl
  exact ⟨hlanes l (List.mem_of_getElem? hn), htx ▸ (List.getElem?_eq_some_iff.mp hn).1⟩

/-- An RX lane that an operation reads is in range, and has an input port. -/
theorem Consistent.rxLane {l : RxLane} (h : RxAt s lk n l) : l.ok lk ∧ n < lk.lanes := by
  obtain ⟨hl, hn, -⟩ := h
  obtain ⟨-, ⟨-, -, -, hrx, -, hlanes⟩, -⟩ := hs lk hl
  exact ⟨hlanes l (List.mem_of_getElem? hn), hrx ▸ (List.getElem?_eq_some_iff.mp hn).1⟩

theorem Consistent.txWord_length {l : TxLane} (h : TxAt s lk n l) : (s.txWord n).length = lk.opc :=
  (hs.inp_ok h.1).txWord_length (hs.txLane h).2

theorem Consistent.rxWord_length {l : RxLane} (h : RxAt s lk n l) : (s.rxWord n).length = lk.opc :=
  (hs.inp_ok h.1).rxWord_length (hs.rxLane h).2

theorem Consistent.alignedWord_length {l : RxLane} (h : RxAt s lk n l) : (alignedWord lk s n l).length = lk.opc := by
  obtain ⟨hprev, hoff, -⟩ := (hs.rxLane h).1
  exact alignSlice_length hprev (hs.rxWord_length h) hoff

/-! ## Writes and drives -/

/-- A write of TX lane `n`'s registers that keeps their ranges keeps consistency. -/
theorem Consistent.setTx (hl : s.link = some lk) {f : TxLane → TxLane} (hf : ∀ x, x.ok lk → (f x).ok lk) :
    Consistent (s.setTx n f) := by
  intro lk' h
  obtain rfl : lk = lk' := Option.some.inj (hl.symm.trans h)
  obtain ⟨hb, hcur, ⟨htl, hrl, htx, hrx, htok, hrok⟩, hrest⟩ := hs lk hl
  exact ⟨hb, hcur, ⟨htl, hrl, by simpa using htx, hrx, forall_mem_modify htok hf n, hrok⟩, hrest⟩

/-- A write of RX lane `n`'s registers that keeps their ranges keeps consistency. -/
theorem Consistent.setRx (hl : s.link = some lk) {f : RxLane → RxLane} (hf : ∀ x, x.ok lk → (f x).ok lk) :
    Consistent (s.setRx n f) := by
  intro lk' h
  obtain rfl : lk = lk' := Option.some.inj (hl.symm.trans h)
  obtain ⟨hb, hcur, ⟨htl, hrl, htx, hrx, htok, hrok⟩, hrest⟩ := hs lk hl
  exact ⟨hb, hcur, ⟨htl, hrl, htx, by simpa using hrx, htok, forall_mem_modify hrok hf n⟩, hrest⟩

theorem Consistent.setLmfc (hl : s.link = some lk) (e : Engine) {v : Lmfc} (hv : v.count < lk.c) : Consistent (s.setLmfc e v) := by
  intro lk' h
  rw [State.setLmfc_link] at h
  obtain rfl : lk = lk' := Option.some.inj (hl.symm.trans h)
  obtain ⟨hb, hcur, ⟨htl, hrl, hlanes⟩, hrest⟩ := hs lk hl
  cases e with
  | tx => exact ⟨hb, hcur, ⟨hv, hrl, hlanes⟩, hrest⟩
  | rx => exact ⟨hb, hcur, ⟨htl, hv, hlanes⟩, hrest⟩

theorem Consistent.setAgg (v : RxAgg) : Consistent (s.setAgg v) := hs

/-- Only the inserter's flags have a length the invariant asks for; a drive that keeps it keeps consistency. -/
theorem Consistent.driveTx (hl : s.link = some lk) {g : TxSig → TxSig}
    (hg : ∀ x : TxSig, x.insCtrl.length = lk.opc → (g x).insCtrl.length = lk.opc) : Consistent (s.driveTx n g) := by
  intro lk' h
  obtain rfl : lk = lk' := Option.some.inj (hl.symm.trans h)
  obtain ⟨hb, hcur, hnxt, hinp, htx, hrx, hflags⟩ := hs lk hl
  exact ⟨hb, hcur, hnxt, hinp, by simpa using htx, hrx, forall_mem_modify hflags hg n⟩

theorem Consistent.driveRx (g : RxSig → RxSig) : Consistent (s.driveRx n g) := by
  intro lk hl
  obtain ⟨hb, hcur, hnxt, hinp, htx, hrx, hflags⟩ := hs lk hl
  exact ⟨hb, hcur, hnxt, hinp, htx, by simpa using hrx, hflags⟩

/-- A drive of TX lane `n`'s signals together with a write of its registers. -/
theorem Consistent.writeTx (hl : s.link = some lk) {f : TxLane → TxLane} {g : TxSig → TxSig}
    (hg : ∀ x : TxSig, x.insCtrl.length = lk.opc → (g x).insCtrl.length = lk.opc) (hf : ∀ x, x.ok lk → (f x).ok lk) :
    Consistent ((s.driveTx n g).setTx n f) :=
  (hs.driveTx hl hg).setTx hl hf

/-- A drive of RX lane `n`'s signals together with a write of its registers. -/
theorem Consistent.writeRx (hl : s.link = some lk) {f : RxLane → RxLane} {g : RxSig → RxSig} (hf : ∀ x, x.ok lk → (f x).ok lk) :
    Consistent ((s.driveRx n g).setRx n f) :=
  (hs.driveRx g).setRx hl hf

theorem Consistent.driveLmfc (e : Engine) : Consistent (s.driveLmfc e) := by cases e <;> exact hs

theorem Consistent.clockEdge : Consistent (clockEdge s) := by
  intro lk hl
  obtain ⟨hb, -, hnxt, hrest⟩ := hs lk hl
  exact ⟨hb, hnxt, hnxt, hrest⟩

theorem Consistent.applyInputs {inp : CycleInputs} (hl : s.link = some lk) (hf : fits lk.opc lk.lanes inp = true) :
    Consistent (applyInputs inp s) := by
  intro lk' h
  obtain rfl : lk = lk' := Option.some.inj (hl.symm.trans h)
  obtain ⟨hb, hcur, hnxt, -, hsig⟩ := hs lk hl
  exact ⟨hb, hcur, hnxt, applyInputs_inp_ok hf s, hsig⟩

end

/-- With no link built there is nothing to be consistent with. -/
theorem consistent_changeSettings (c : Settings) (s : State) : Consistent (changeSettings c s) := by
  intro lk h
  cases h

theorem consistent_instantiate {s : State} {lk : Link} (hb : linkBuild s.params s.cfg = .ok lk) : Consistent (instantiate lk s) := by
  intro lk' h
  obtain rfl : lk = lk' := Option.some.inj h
  obtain ⟨hopc, hc, -⟩ := linkBuild_bounds hb
  exact ⟨hb, Regs.reset_ok hopc hc, Regs.reset_ok hopc hc, Inputs.idle_ok lk, Sig.idle_ok lk⟩

/-! ## Outcomes: a consistent next state, if any -/

/-- The outcome's next state, if it is one, is consistent. -/
def KeepsConsistent (o : Out) : Prop := ∀ t, o = .next t → Consistent t

theorem keepsConsistent_next {t : State} (h : Consistent t) : KeepsConsistent (.next t) := by
  rintro _ ⟨⟩
  exact h

theorem keepsConsistent_fault (r : Fault) : KeepsConsistent (.fault r) := by
  rintro _ ⟨⟩

theorem keepsConsistent_refused (r : Refusal) : KeepsConsistent (.refused r) := by
  rintro _ ⟨⟩

theorem KeepsConsistent.andThen {o : Out} {k : State → Out} (ho : KeepsConsistent o)
    (hk : ∀ u, Consistent u → KeepsConsistent (k u)) : KeepsConsistent (andThen o k) := by
  intro t h
  obtain ⟨u, hu, ht⟩ := andThen_eq_next.mp h
  exact hk u (ho u hu) t ht

section
variable {s : State} {n : Nat}

theorem keepsConsistent_withLink {k : Link → Out} (hk : ∀ lk, s.link = some lk → KeepsConsistent (k lk)) :
    KeepsConsistent (withLink s k) := by
  intro t h
  obtain ⟨lk, hl, ht⟩ := withLink_next h
  exact hk lk hl t ht

theorem keepsConsistent_withTxLane {k : Link → TxLane → Out} (hk : ∀ lk l, KeepsConsistent (k lk l)) :
    KeepsConsistent (withTxLane n s k) := by
  intro t h
  obtain ⟨lk, l, -, -, ht⟩ := withTxLane_next h
  exact hk lk l t ht

theorem keepsConsistent_withRxLane {k : Link → RxLane → Out} (hk : ∀ lk l, KeepsConsistent (k lk l)) :
    KeepsConsistent (withRxLane n s k) := by
  intro t h
  obtain ⟨lk, l, -, -, ht⟩ := withRxLane_next h
  exact hk lk l t ht

theorem keepsConsistent_withTx {k : Link → TxLane → Out} (hk : ∀ lk l, TxAt s lk n l → KeepsConsistent (k lk l)) :
    KeepsConsistent (withTx n s k) := by
  intro t h
  obtain ⟨lk, l, hat, ht⟩ := withTx_next h
  exact hk lk l hat t ht

theorem keepsConsistent_withRx {k : Link → RxLane → Out} (hk : ∀ lk l, RxAt s lk n l → KeepsConsistent (k lk l)) :
    KeepsConsistent (withRx n s k) := by
  intro t h
  obtain ⟨lk, l, hat, ht⟩ := withRx_next h
  exact hk lk l hat t ht

theorem keepsConsistent_withAligned {k : Link → RxLane → LinkWord → Out}
    (hk : ∀ lk l, RxAt s lk n l → KeepsConsistent (k lk l (alignedWord lk s n l))) : KeepsConsistent (withAligned n s k) :=
  keepsConsistent_withRx hk

theorem keepsConsistent_withCount {e : Engine} {lk : Link} {o : Out} (ho : KeepsConsistent o) :
    KeepsConsistent (withCount e lk s o) := fun t h => ho t (withCount_next h).2

theorem keepsConsistent_withTxStates {o : Out} (ho : KeepsConsistent o) : KeepsConsistent (withTxStates s o) :=
  fun t h => ho t (withTxStates_next h).2

theorem keepsConsistent_withSlot {j : Nat} {lk : Link} {o : Out} (ho : KeepsConsistent o) : KeepsConsistent (withSlot j lk o) :=
  fun t h => ho t (withSlot_next h).2

theorem keepsConsistent_withEntry {i : Nat} {lk : Link} {k : LinkWord → Out} (hk : ∀ w, KeepsConsistent (k w)) :
    KeepsConsistent (withEntry n i lk k) := by
  intro t h
  obtain ⟨w, -, ht⟩ := withEntry_next h
  exact hk w t ht

/-- An LMFC operation drives its signals and writes a count in range. -/
theorem keepsConsistent_withLmfc (hs : Consistent s) {e : Engine} {v : Link → Lmfc → Lmfc}
    (hv : ∀ lk, s.link = some lk → (v lk (s.lmfc e)).count < lk.c) :
    KeepsConsistent (withLmfc e s fun lk m => .next ((s.driveLmfc e).setLmfc e (v lk m))) := by
  intro t h
  obtain ⟨lk, hl, -, ⟨⟩⟩ := withLmfc_next h
  exact (hs.driveLmfc e).setLmfc (by simpa using hl) e (hv lk hl)

end

end Sys2Proof.Machine
end

section
/-! Every operation keeps consistency: each writes values in range (10_state.md R33 to R36). -/

namespace Sys2Proof.Machine

open Sys2Proof

section
variable {s : State} {n : Nat} (hs : Consistent s)
include hs

/-! ## Symbols (R91 to R94) -/

theorem keepsConsistent_presentSymbol (j : Nat) (x : Sym) : KeepsConsistent (presentSymbol n j x s) := by
  unfold presentSymbol
  split
  · exact keepsConsistent_fault _
  · rename_i w hw
    split
    · refine keepsConsistent_next fun lk hl => ?_
      obtain ⟨hb, hcur, hnxt, hinp, hsig⟩ := hs lk hl
      exact ⟨hb, hcur, hnxt, hinp.set_symbol hw j x, hsig⟩
    · exact keepsConsistent_fault _

/-! ## TX lane (R172, R191, R196, R220, R224, R251 to R258) -/

theorem Consistent.txStep {lk : Link} (hl : s.link = some lk) (out : LinkWord) (ready : Bool) {next : BitVec 2} (h : next ≠ 3) :
    Consistent (txStep n out ready next s) :=
  hs.writeTx hl (fun _ hx => hx) fun _ hx => hx.set_state h

theorem keepsConsistent_txSendCgs : KeepsConsistent (execTxSendCgs n s) :=
  keepsConsistent_withTx fun _ _ hat => keepsConsistent_withCount
    (keepsConsistent_next (hs.txStep hat.1 _ _ (nextSendCgs_ne_illegal s)))

theorem keepsConsistent_txSendIlas : KeepsConsistent (execTxSendIlas n s) :=
  keepsConsistent_withTx fun lk l hat => keepsConsistent_withEntry fun _ =>
    keepsConsistent_next (hs.txStep hat.1 _ _ (nextSendIlas_ne_illegal lk s l))

theorem keepsConsistent_txSendData : KeepsConsistent (execTxSendData n s) :=
  keepsConsistent_withTx fun lk l hat => keepsConsistent_next (hs.txStep hat.1 _ _ (nextSendData_ne_illegal lk s l))

theorem keepsConsistent_scrReset : KeepsConsistent (execScrReset n s) :=
  keepsConsistent_withTx fun _ _ hat => keepsConsistent_next
    (hs.setTx hat.1 fun _ hx => hx.set_scr List.length_replicate)

theorem keepsConsistent_scrStep : KeepsConsistent (execScrStep n s) :=
  keepsConsistent_withTx fun _ _ hat => keepsConsistent_next
    (hs.setTx hat.1 fun _ hx => hx.set_scr ((scramble_length _ _).trans (hs.txWord_length hat)))

theorem keepsConsistent_scrBypass : KeepsConsistent (execScrBypass n s) :=
  keepsConsistent_withTx fun _ _ hat => keepsConsistent_next
    (hs.setTx hat.1 fun _ hx => hx.set_scr (hs.txWord_length hat))

theorem keepsConsistent_framerReset : KeepsConsistent (execFramerReset n s) :=
  keepsConsistent_withTx fun _ _ hat => keepsConsistent_next
    (hs.writeTx hat.1 (fun _ hx => hx) fun _ hx => hx.set_frCnt (hs.c_pos hat.1))

theorem keepsConsistent_framerStep : KeepsConsistent (execFramerStep n s) := by
  refine keepsConsistent_withTx fun lk l hat => keepsConsistent_next
    (hs.writeTx hat.1 (fun _ hx => hx) fun _ hx => hx.set_frCnt ?_)
  obtain ⟨-, -, -, hfr, -⟩ := (hs.txLane hat).1
  split <;> omega

theorem keepsConsistent_insertAt (j : Nat) (b : Bool) : KeepsConsistent (insertAt n j b s) :=
  keepsConsistent_withTx fun _ _ hat => keepsConsistent_withSlot
    (keepsConsistent_next (hs.driveTx hat.1 fun _ hx => List.length_set.trans hx))

theorem keepsConsistent_cgsGen : KeepsConsistent (execCgsGen n s) :=
  keepsConsistent_withTx fun _ _ hat => keepsConsistent_next (hs.driveTx hat.1 fun _ hx => hx)

theorem keepsConsistent_ilasGenReset : KeepsConsistent (execIlasGenReset n s) :=
  keepsConsistent_withTx fun _ _ hat => keepsConsistent_withEntry fun _ => keepsConsistent_next
    (hs.writeTx hat.1 (fun _ hx => hx) fun _ hx => hx.set_ilasIdx (hs.len_pos hat.1))

theorem keepsConsistent_ilasGenStep : KeepsConsistent (execIlasGenStep n s) :=
  keepsConsistent_withTx fun _ _ hat => keepsConsistent_withEntry fun _ => keepsConsistent_next
    (hs.writeTx hat.1 (fun _ hx => hx) fun _ hx => hx.set_ilasIdx (nextIndex_lt (hs.len_pos hat.1) _))

theorem keepsConsistent_txDesync : KeepsConsistent (execTxDesync n s) := by
  refine keepsConsistent_withTx fun lk l hat => keepsConsistent_next
    (hs.writeTx hat.1 (fun _ hx => hx) fun _ hx => hx.set_desyncCnt ?_)
  split
  · exact Nat.zero_le _
  · exact Nat.min_le_right _ _

theorem keepsConsistent_txSyncLoss : KeepsConsistent (execTxSyncLoss n s) := by
  refine keepsConsistent_withTx fun lk l hat => keepsConsistent_next (hs.setTx hat.1 fun x hx => hx.set_syncLoss ?_)
  obtain ⟨-, -, -, -, -, hloss⟩ := (hs.txLane hat).1
  split
  · exact Nat.two_pow_pos _
  · split
    · exact satInc_lt lk _
    · exact hloss

theorem keepsConsistent_txAgg : KeepsConsistent (execTxAgg s) :=
  keepsConsistent_withLink fun _ _ => keepsConsistent_withTxStates (keepsConsistent_next hs)

/-! ## LMFC (R152) -/

theorem keepsConsistent_lmfcReset (e : Engine) : KeepsConsistent (execLmfcReset e s) :=
  keepsConsistent_withLmfc hs fun _ hl => hs.c_pos hl

theorem keepsConsistent_lmfcLoad (e : Engine) : KeepsConsistent (execLmfcLoad e s) :=
  keepsConsistent_withLmfc hs fun _ hl => (hs.bounds hl).2.2

theorem keepsConsistent_lmfcCount (e : Engine) : KeepsConsistent (execLmfcCount e s) :=
  keepsConsistent_withLmfc hs fun _ hl => Nat.mod_lt _ (hs.c_pos hl)

/-! ## RX lane (R175, R198, R199, R203, R221, R228, R230, R262 to R270) -/

theorem keepsConsistent_alignReplClear : KeepsConsistent (execAlignReplClear n s) :=
  keepsConsistent_withAligned fun _ _ _ => keepsConsistent_next (hs.driveRx _)

theorem keepsConsistent_deframerPass : KeepsConsistent (execDeframerPass n s) :=
  keepsConsistent_withAligned fun _ _ _ => keepsConsistent_next (hs.driveRx _)

theorem keepsConsistent_cgsCheck : KeepsConsistent (execCgsCheck n s) :=
  keepsConsistent_withAligned fun _ _ _ => keepsConsistent_next (hs.driveRx _)

theorem keepsConsistent_ilasStart : KeepsConsistent (execIlasStart n s) :=
  keepsConsistent_withAligned fun _ _ _ => keepsConsistent_next (hs.driveRx _)

theorem keepsConsistent_alignerReset : KeepsConsistent (execAlignerReset n s) :=
  keepsConsistent_withAligned fun _ _ hat => keepsConsistent_next
    (hs.writeRx hat.1 fun _ hx => hx.set_aligner List.length_replicate (hs.bounds hat.1).1)

theorem keepsConsistent_alignerLatch : KeepsConsistent (execAlignerLatch n s) := by
  refine keepsConsistent_withAligned fun lk l hat => keepsConsistent_next
    (hs.writeRx hat.1 fun _ hx => hx.set_aligner (hs.rxWord_length hat) ?_)
  cases hr : lowestR 0 (s.rxWord n) with
  | none => exact hat.2.2
  | some j => simpa [hs.rxWord_length hat] using lowestR_lt hr

theorem keepsConsistent_alignerHold : KeepsConsistent (execAlignerHold n s) :=
  keepsConsistent_withAligned fun _ _ hat => keepsConsistent_next
    (hs.writeRx hat.1 fun _ hx => hx.set_aligner (hs.rxWord_length hat) hx.2.1)

theorem Consistent.nextIcIn_length {lk : Link} {l : RxLane} (h : RxAt s lk n l) :
    (nextIcIn lk s (alignedWord lk s n l)).length = lk.opc := by
  unfold nextIcIn
  split
  · exact List.length_replicate
  · exact hs.alignedWord_length h

theorem keepsConsistent_ilasChkReset : KeepsConsistent (execIlasChkReset n s) :=
  keepsConsistent_withAligned fun _ _ hat => keepsConsistent_withEntry fun _ => keepsConsistent_next
    (hs.writeRx hat.1 fun _ hx => hx.set_checker (hs.nextIcIn_length hat) (hs.len_pos hat.1))

theorem keepsConsistent_ilasChkStep : KeepsConsistent (execIlasChkStep n s) :=
  keepsConsistent_withAligned fun _ _ hat => keepsConsistent_withEntry fun _ => keepsConsistent_next
    (hs.writeRx hat.1 fun _ hx =>
      hx.set_checker (hs.nextIcIn_length hat) (nextIndex_lt (hs.len_pos hat.1) _))

theorem Consistent.rxDataWord_length {lk : Link} {l : RxLane} (h : RxAt s lk n l) : (rxDataWord lk s n l).length = lk.opc :=
  (Machine.rxDataWord_length lk s n l).trans (hs.alignedWord_length h)

theorem keepsConsistent_descrReset : KeepsConsistent (execDescrReset n s) :=
  keepsConsistent_withRx fun _ _ hat => keepsConsistent_next
    (hs.writeRx hat.1 fun _ hx => hx.set_dscr List.length_replicate)

theorem keepsConsistent_descrStep : KeepsConsistent (execDescrStep n s) :=
  keepsConsistent_withAligned fun _ _ hat => keepsConsistent_next
    (hs.writeRx hat.1 fun _ hx => hx.set_dscr ((descramble_length _ _).trans (hs.rxDataWord_length hat)))

theorem keepsConsistent_descrBypass : KeepsConsistent (execDescrBypass n s) :=
  keepsConsistent_withAligned fun _ _ hat => keepsConsistent_next
    (hs.writeRx hat.1 fun _ hx => hx.set_dscr (hs.rxDataWord_length hat))

theorem Consistent.rxStep {lk : Link} (hl : s.link = some lk) (align jsync ready : Bool) (next : BitVec 2) :
    Consistent (rxStep n align jsync ready next s) :=
  hs.writeRx hl fun _ hx => hx.set_state next

theorem keepsConsistent_rxReceiveCgs : KeepsConsistent (execRxReceiveCgs n s) :=
  keepsConsistent_withAligned fun _ _ hat => keepsConsistent_withCount (keepsConsistent_next (hs.rxStep hat.1 _ _ _ _))

theorem keepsConsistent_rxAssertSync : KeepsConsistent (execRxAssertSync n s) :=
  keepsConsistent_withAligned fun _ _ hat => keepsConsistent_next (hs.rxStep hat.1 _ _ _ _)

theorem keepsConsistent_rxReceiveIlas : KeepsConsistent (execRxReceiveIlas n s) :=
  keepsConsistent_withRx fun _ _ hat => keepsConsistent_withEntry fun _ => keepsConsistent_next (hs.rxStep hat.1 _ _ _ _)

theorem keepsConsistent_rxReceiveData : KeepsConsistent (execRxReceiveData n s) :=
  keepsConsistent_withAligned fun _ _ hat => keepsConsistent_next (hs.rxStep hat.1 _ _ _ _)

theorem keepsConsistent_rxIlasErr : KeepsConsistent (execRxIlasErr n s) := by
  refine keepsConsistent_withRx fun lk l hat => keepsConsistent_withEntry fun e => keepsConsistent_next
    (hs.setRx hat.1 fun x hx => hx.set_ilasErr ?_)
  obtain ⟨-, -, -, -, -, herr, -⟩ := (hs.rxLane hat).1
  split
  · exact Nat.two_pow_pos _
  · split
    · exact satInc_lt lk _
    · exact herr

theorem keepsConsistent_rxSyncLoss : KeepsConsistent (execRxSyncLoss n s) := by
  refine keepsConsistent_withAligned fun lk l hat => keepsConsistent_withEntry fun e => keepsConsistent_next
    (hs.setRx hat.1 fun x hx => hx.set_syncLoss ?_)
  obtain ⟨-, -, -, -, -, -, hloss⟩ := (hs.rxLane hat).1
  split
  · exact Nat.two_pow_pos _
  · split
    · exact satInc_lt lk _
    · exact hloss

theorem keepsConsistent_rxAgg : KeepsConsistent (execRxAgg s) :=
  keepsConsistent_withLink fun _ _ => keepsConsistent_withCount (keepsConsistent_next (hs.setAgg _))

/-! ## Configuration (R122 to R134, R290): a raise leaves all but the reply, a write drops the link, a build starts it at reset -/

theorem keepsConsistent_raiseCfg (e : CfgError) : KeepsConsistent (raiseCfg e s) := keepsConsistent_next hs

theorem keepsConsistent_cfgSetField (f : Field) (v : Nat) : KeepsConsistent (execCfgSetField f v s) := by
  unfold execCfgSetField
  split
  · exact keepsConsistent_raiseCfg hs _
  · exact keepsConsistent_next (consistent_changeSettings _ s)

theorem keepsConsistent_cfgGetField (f : Field) : KeepsConsistent (execCfgGetField f s) := keepsConsistent_next hs

theorem keepsConsistent_cfgRecompute : KeepsConsistent (execCfgRecompute s) := by
  unfold execCfgRecompute
  split
  · exact keepsConsistent_raiseCfg hs _
  · exact keepsConsistent_next (consistent_changeSettings _ s)

theorem keepsConsistent_cfgSerialize : KeepsConsistent (execCfgSerialize s) := keepsConsistent_next hs

theorem keepsConsistent_cfgDeserialize (b : List Nat) : KeepsConsistent (execCfgDeserialize b s) := by
  unfold execCfgDeserialize
  split
  · exact keepsConsistent_raiseCfg hs _
  · exact keepsConsistent_next (consistent_changeSettings _ s)

theorem keepsConsistent_cfgLinkBuild : KeepsConsistent (execCfgLinkBuild s) := by
  unfold execCfgLinkBuild
  split
  · exact keepsConsistent_raiseCfg hs _
  · rename_i lk hb
    exact keepsConsistent_next (consistent_instantiate hb)

/-! ## All rows, a cycle, and a step -/

/-- Every operation from a consistent state gives a consistent state, if it gives a next state. -/
theorem keepsConsistent_exec (i : Instr) : KeepsConsistent (exec i s) := by
  cases i with
  | symR n j | symA n j | symQ n j | symK n j | symF n j | symData n j d | symReserved n j d =>
    exact keepsConsistent_presentSymbol hs j _
  | txSendCgs n => exact keepsConsistent_txSendCgs hs
  | txSendIlas n => exact keepsConsistent_txSendIlas hs
  | txSendData n => exact keepsConsistent_txSendData hs
  | txIllegal n => exact keepsConsistent_fault _
  | rxReceiveCgs n => exact keepsConsistent_rxReceiveCgs hs
  | rxAssertSync n => exact keepsConsistent_rxAssertSync hs
  | rxReceiveIlas n => exact keepsConsistent_rxReceiveIlas hs
  | rxReceiveData n => exact keepsConsistent_rxReceiveData hs
  | lmfcReset e _ => exact keepsConsistent_lmfcReset hs e
  | lmfcLoad e => exact keepsConsistent_lmfcLoad hs e
  | lmfcCount e => exact keepsConsistent_lmfcCount hs e
  | scrReset n _ => exact keepsConsistent_scrReset hs
  | scrStep n => exact keepsConsistent_scrStep hs
  | scrBypass n => exact keepsConsistent_scrBypass hs
  | descrReset n _ => exact keepsConsistent_descrReset hs
  | descrStep n => exact keepsConsistent_descrStep hs
  | descrBypass n => exact keepsConsistent_descrBypass hs
  | framerReset n => exact keepsConsistent_framerReset hs
  | framerStep n => exact keepsConsistent_framerStep hs
  | alignInsA n j _ _ | alignInsF n j _ | alignInsPass n j _ => exact keepsConsistent_insertAt hs j _
  | alignReplClear n => exact keepsConsistent_alignReplClear hs
  | deframerPass n => exact keepsConsistent_deframerPass hs
  | alignerReset n _ => exact keepsConsistent_alignerReset hs
  | alignerLatch n => exact keepsConsistent_alignerLatch hs
  | alignerHold n => exact keepsConsistent_alignerHold hs
  | cgsGen n => exact keepsConsistent_cgsGen hs
  | cgsCheck n => exact keepsConsistent_cgsCheck hs
  | ilasGenReset n => exact keepsConsistent_ilasGenReset hs
  | ilasGenStep n => exact keepsConsistent_ilasGenStep hs
  | ilasChkReset n => exact keepsConsistent_ilasChkReset hs
  | ilasChkStep n => exact keepsConsistent_ilasChkStep hs
  | ilasStart n => exact keepsConsistent_ilasStart hs
  | txDesync n => exact keepsConsistent_txDesync hs
  | txSyncLoss n => exact keepsConsistent_txSyncLoss hs
  | txAgg => exact keepsConsistent_txAgg hs
  | rxIlasErr n => exact keepsConsistent_rxIlasErr hs
  | rxSyncLoss n => exact keepsConsistent_rxSyncLoss hs
  | rxAgg => exact keepsConsistent_rxAgg hs
  | cfgSetField f v => exact keepsConsistent_cfgSetField hs f v
  | cfgGetField f => exact keepsConsistent_cfgGetField hs f
  | cfgRecompute => exact keepsConsistent_cfgRecompute hs
  | cfgSerialize => exact keepsConsistent_cfgSerialize hs
  | cfgDeserialize b => exact keepsConsistent_cfgDeserialize hs b
  | cfgLinkBuild => exact keepsConsistent_cfgLinkBuild hs
  | cfgReserved _ => exact keepsConsistent_fault _

theorem keepsConsistent_runSel (p : Port) (sel lane slot : Nat) : KeepsConsistent (runSel p sel lane slot s) := by
  unfold runSel
  split
  · exact keepsConsistent_refused _
  · exact keepsConsistent_exec hs _

theorem keepsConsistent_runInstance (i : Instance) : KeepsConsistent (runInstance i s) := by
  refine keepsConsistent_withLink fun lk _ => ?_
  split
  case h_1 | h_2 | h_3 => exact keepsConsistent_runSel hs _ _ _ _
  case h_4 | h_5 | h_6 | h_7 | h_8 | h_9 | h_10 | h_11 =>
    exact keepsConsistent_withTxLane fun _ _ => keepsConsistent_runSel hs _ _ _ _
  case h_12 => exact keepsConsistent_withRxLane fun _ _ => keepsConsistent_runSel hs _ _ _ _

end

theorem keepsConsistent_runInstances (is : List Instance) {s : State} (hs : Consistent s) : KeepsConsistent (runInstances is s) := by
  induction is generalizing s with
  | nil => exact keepsConsistent_next hs
  | cons i is ih => exact (keepsConsistent_runInstance hs i).andThen fun _ hu => ih hu

theorem keepsConsistent_runSymbols (xs : List (Nat × Nat × BitVec 9)) {s : State} (hs : Consistent s) :
    KeepsConsistent (runSymbols xs s) := by
  induction xs generalizing s with
  | nil => exact keepsConsistent_next hs
  | cons x xs ih => exact (keepsConsistent_runSel hs _ _ _ _).andThen fun _ hu => ih hu

/-! ## The invariant: every step ends in a clock edge, after which no write is pending (R12) -/

theorem inv_clockEdge {s : State} (hs : Consistent s) : Inv (clockEdge s) := ⟨hs.clockEdge, rfl⟩

/-- A sequence that ends in the clock edge gives a state with the invariant. -/
theorem inv_of_andThen_clockEdge {o : Out} (ho : KeepsConsistent o) {t : State}
    (h : andThen o (fun u => .next (clockEdge u)) = .next t) : Inv t := by
  obtain ⟨u, hu, ⟨⟩⟩ := andThen_eq_next.mp h
  exact inv_clockEdge (ho u hu)

theorem inv_runRecord {s t : State} {p : Port} {b : List Octet} (hs : Consistent s) (h : runRecord p b s = .next t) : Inv t := by
  unfold runRecord at h
  split at h
  · cases h
  · exact inv_of_andThen_clockEdge (keepsConsistent_exec hs _) h

theorem inv_runCycle {s t : State} {inp : CycleInputs} (hs : Consistent s) (h : runCycle inp s = .next t) : Inv t := by
  obtain ⟨lk, hl, h⟩ := withLink_next h
  split at h
  · rename_i hfits
    obtain ⟨u, hu, h⟩ := andThen_eq_next.mp h
    have hcons := keepsConsistent_runSymbols _ (hs.applyInputs hl hfits) u hu
    exact inv_of_andThen_clockEdge (keepsConsistent_runInstances _ hcons) h
  · cases h

end Sys2Proof.Machine

namespace Sys2Proof.Proofs

open Sys2Proof Sys2Proof.Machine

/-- Settles O50: every operation keeps consistency, so a record does and, by induction over its symbols and component instances, a
cycle does; each then ends in the clock edge. -/
theorem invariantIsKept : Obligations.InvariantIsKept := by
  intro s t hinv h
  have hs : Consistent s := hinv.1
  cases hp : s.program with
  | nil => simp [step, present, hp] at h
  | cons item rest =>
    simp only [step, present, hp] at h
    cases item with
    | op p b => exact inv_runRecord (s := { s with program := rest }) hs h
    | cycle inp => exact inv_runCycle (s := { s with program := rest }) hs h

end Sys2Proof.Proofs
end

section
/-! The symbols of a cycle of stimulus, presented one by one, fill the RX input words (30_encoding.md R90, R91; 10_state.md R39). -/

namespace Sys2Proof.Machine

open Sys2Proof

/-- The symbol a 9-bit code stands for (R90), as `portsOf` reads it. -/
def symOf (c : BitVec 9) : Sym := ⟨c.getLsbD 8, c.setWidth 8⟩

/-- Whatever operation SYM9 names for a flag and an octet, it presents the symbol of that flag and octet (R91, R92, R94). -/
theorem exec_decodeSym (c : Bool) (d : Octet) (n j : Nat) (s : State) :
    exec (decodeSym c d n j) s = presentSymbol n j ⟨c, d⟩ s := by
  cases c with
  | false => rfl
  | true =>
    simp only [decodeSym, Bool.true_eq_false, if_false]
    split_ifs <;> subst_vars <;> rfl

/-- A 9-bit code on the symbol port presents its symbol. -/
theorem runSel_sym (c : BitVec 9) (n j : Nat) (s : State) : runSel .sym c.toNat n j s = presentSymbol n j (symOf c) s := by
  have hflag : decide (256 ≤ c.toNat) = c.getLsbD 8 := by
    rw [BitVec.getLsbD_eq_getElem (by omega), BitVec.getElem_eq_testBit_toNat, Nat.testBit_eq_decide_div_mod_eq, decide_eq_decide]
    have := c.isLt
    omega
  have hdec : decodeSel .sym c.toNat n j = .ok (decodeSym (c.getLsbD 8) (c.setWidth 8) n j) := by
    simp only [decodeSel, if_pos c.isLt, hflag, BitVec.ofNat_toNat]
  rw [runSel_ok hdec, exec_decodeSym, symOf]

/-- A state with other RX input words. -/
def State.withRxIn (s : State) (ws : List LinkWord) : State := { s with inp := { s.inp with rxIn := ws } }

@[simp] theorem State.withRxIn_rxIn (s : State) (ws : List LinkWord) : (s.withRxIn ws).inp.rxIn = ws := rfl
@[simp] theorem State.withRxIn_withRxIn (s : State) (ws vs : List LinkWord) : (s.withRxIn ws).withRxIn vs = s.withRxIn vs := rfl

theorem presentSymbol_ok {s : State} {n j : Nat} {w : LinkWord} (hn : s.inp.rxIn[n]? = some w) (hj : j < w.length) (x : Sym) :
    presentSymbol n j x s = .next (s.withRxIn (s.inp.rxIn.set n (w.set j x))) := by
  simp only [presentSymbol, hn, if_pos hj, State.withRxIn]

theorem runSymbols_append (xs ys : List (Nat × Nat × BitVec 9)) (s : State) :
    runSymbols (xs ++ ys) s = andThen (runSymbols xs s) (runSymbols ys) := by
  induction xs generalizing s with
  | nil => rfl
  | cons x xs ih =>
    simp only [List.cons_append, runSymbols]
    cases runSel .sym x.2.2.toNat x.1 x.2.1 s with
    | next t => exact ih t
    | fault r => rfl
    | refused r => rfl

/-- The symbols of one word, presented from slot `pre.length` on, overwrite the rest of the lane's word. -/
theorem runSymbols_word {n : Nat} (codes : List (BitVec 9)) {s : State} {pre rest : LinkWord}
    (hn : s.inp.rxIn[n]? = some (pre ++ rest)) (hlen : rest.length = codes.length) :
    runSymbols ((codes.zipIdx pre.length).map fun y => (n, y.2, y.1)) s
      = .next (s.withRxIn (s.inp.rxIn.set n (pre ++ codes.map symOf))) := by
  induction codes generalizing s pre rest with
  | nil =>
    obtain rfl : rest = [] := List.length_eq_zero_iff.mp hlen
    have hset : s.inp.rxIn.set n pre = s.inp.rxIn := by
      obtain ⟨h, he⟩ := List.getElem?_eq_some_iff.mp hn
      rw [List.append_nil] at he
      rw [← he, List.set_getElem_self]
    simp [runSymbols, hset, State.withRxIn]
  | cons c codes ih =>
    obtain ⟨x, rest, rfl⟩ := List.exists_cons_of_length_eq_add_one hlen
    have hslot : (pre ++ x :: rest).set pre.length (symOf c) = (pre ++ [symOf c]) ++ rest := by simp
    have hpresent := presentSymbol_ok hn (j := pre.length) (by simp) (symOf c)
    rw [hslot] at hpresent
    have hlane : (s.withRxIn (s.inp.rxIn.set n ((pre ++ [symOf c]) ++ rest))).inp.rxIn[n]? = some ((pre ++ [symOf c]) ++ rest) :=
      List.getElem?_set_self (List.getElem?_eq_some_iff.mp hn).1
    have htail := ih hlane (by simpa using hlen)
    rw [List.length_append, List.length_singleton] at htail
    simp only [List.zipIdx_cons, List.map_cons, runSymbols, runSel_sym, hpresent, andThen_next_left, htail]
    simp

/-- The symbols of the words of lanes `pre.length`, …, presented lane by lane, overwrite the words of these lanes. -/
theorem runSymbols_words (words : List (List (BitVec 9))) {s : State} {pre rest : List LinkWord}
    (hin : s.inp.rxIn = pre ++ rest) (hshape : rest.map List.length = words.map List.length) :
    runSymbols ((words.zipIdx pre.length).flatMap fun x => x.1.zipIdx.map fun y => (x.2, y.2, y.1)) s
      = .next (s.withRxIn (pre ++ words.map (List.map symOf))) := by
  induction words generalizing s pre rest with
  | nil =>
    obtain rfl : rest = [] := by simpa using hshape
    simp [runSymbols, State.withRxIn, ← hin]
  | cons codes words ih =>
    cases rest with
    | nil => simp at hshape
    | cons w rest =>
      obtain ⟨hw, hrest⟩ : w.length = codes.length ∧ rest.map List.length = words.map List.length := by simpa using hshape
      have hword := runSymbols_word codes (s := s) (n := pre.length) (pre := []) (rest := w) (by simp [hin]) hw
      rw [List.length_nil, List.nil_append] at hword
      have hset : s.inp.rxIn.set pre.length (codes.map symOf) = (pre ++ [codes.map symOf]) ++ rest := by simp [hin]
      rw [hset] at hword
      have htail := ih (s := s.withRxIn ((pre ++ [codes.map symOf]) ++ rest)) rfl hrest
      rw [List.length_append, List.length_singleton] at htail
      simp only [List.zipIdx_cons, List.flatMap_cons, runSymbols_append, hword, andThen_next_left, htail]
      simp

/-- After its symbols, a cycle's input ports hold the cycle's inputs (R39). -/
theorem runSymbols_stimulus (inp : CycleInputs) (s : State) :
    runSymbols (stimulusSymbols inp) (applyInputs inp s) = .next (seen inp s) :=
  runSymbols_words inp.rxIn (pre := []) (rest := inp.rxIn.map fun w => w.map fun _ => Sym.zero) rfl (by simp)

end Sys2Proof.Machine
end

section
/-! What a list of component instances does to the registers' next values and to the signals (00_scope.md R12): in a cycle nothing else
changes, and what they do is a function of the registers of the cycle's start and its inputs. -/

namespace Sys2Proof.Machine

open Sys2Proof

/-! ## Writes of one lane, as functions of the registers and of the signals -/

/-- TX lane `n`'s registers changed by `f`. -/
def Regs.modifyTx (n : Nat) (f : TxLane → TxLane) (r : Regs) : Regs := { r with tx := r.tx.modify n f }
/-- RX lane `n`'s registers changed by `f`. -/
def Regs.modifyRx (n : Nat) (f : RxLane → RxLane) (r : Regs) : Regs := { r with rx := r.rx.modify n f }
/-- TX lane `n`'s signals changed by `g`. -/
def Sig.modifyTx (n : Nat) (g : TxSig → TxSig) (x : Sig) : Sig := { x with tx := x.tx.modify n g }
/-- RX lane `n`'s signals changed by `g`. -/
def Sig.modifyRx (n : Nat) (g : RxSig → RxSig) (x : Sig) : Sig := { x with rx := x.rx.modify n g }

@[simp] theorem Regs.modifyTx_comp (n : Nat) (f f' : TxLane → TxLane) :
    Regs.modifyTx n f' ∘ Regs.modifyTx n f = Regs.modifyTx n (f' ∘ f) := by
  funext r
  simp [Regs.modifyTx, List.modify_modify_eq]

@[simp] theorem Regs.modifyRx_comp (n : Nat) (f f' : RxLane → RxLane) :
    Regs.modifyRx n f' ∘ Regs.modifyRx n f = Regs.modifyRx n (f' ∘ f) := by
  funext r
  simp [Regs.modifyRx, List.modify_modify_eq]

@[simp] theorem Sig.modifyTx_comp (n : Nat) (g g' : TxSig → TxSig) :
    Sig.modifyTx n g' ∘ Sig.modifyTx n g = Sig.modifyTx n (g' ∘ g) := by
  funext x
  simp [Sig.modifyTx, List.modify_modify_eq]

@[simp] theorem Sig.modifyRx_comp (n : Nat) (g g' : RxSig → RxSig) :
    Sig.modifyRx n g' ∘ Sig.modifyRx n g = Sig.modifyRx n (g' ∘ g) := by
  funext x
  simp [Sig.modifyRx, List.modify_modify_eq]

/-! ## What instances do -/

/-- Reading link, registers and inputs as in `s`, the instances `is` complete; they change the next register values by `r` and the
signals by `g`, whatever these hold, and nothing else. -/
def Acts (s : State) (is : List Instance) (r : Regs → Regs) (g : Sig → Sig) : Prop :=
  ∀ N G, runInstances is { s with nxt := N, sig := G } = .next { s with nxt := r N, sig := g G }

theorem runInstances_append (is js : List Instance) (s : State) :
    runInstances (is ++ js) s = andThen (runInstances is s) (runInstances js) := by
  induction is generalizing s with
  | nil => rfl
  | cons i is ih =>
    simp only [List.cons_append, runInstances]
    cases runInstance i s with
    | next t => exact ih t
    | fault r => rfl
    | refused r => rfl

@[simp] theorem runInstances_singleton (i : Instance) (s : State) : runInstances [i] s = runInstance i s := by
  simp only [runInstances]
  cases runInstance i s <;> rfl

section
variable {s : State} {is js : List Instance} {r r' : Regs → Regs} {g g' : Sig → Sig}

theorem Acts.nil : Acts s [] id id := fun _ _ => rfl

/-- Instances one after the other: their changes one after the other. -/
theorem Acts.append (h : Acts s is r g) (h' : Acts s js r' g') : Acts s (is ++ js) (r' ∘ r) (g' ∘ g) := by
  intro N G
  rw [runInstances_append, h N G, andThen_next_left, h' (r N) (g G)]
  rfl

theorem Acts.congr (h : Acts s is r g) (hr : r = r') (hg : g = g') : Acts s is r' g' := hr ▸ hg ▸ h

/-- What a single component does in the state it reads. -/
theorem Acts.runInstance {i : Instance} (h : Acts s [i] r g) : runInstance i s = .next { s with nxt := r s.nxt, sig := g s.sig } :=
  (runInstances_singleton i s).symm.trans (h s.nxt s.sig)

/-- A TX lane's component does what the operation does that its select word names. -/
theorem acts_tx {lk : Link} {n j : Nat} {l : TxLane} {p : Port} {i : Instr} (h : TxAt s lk n l)
    (hp : p = .txDesync ∨ p = .framer ∨ p = .scr ∨ p = .cgsGen ∨ p = .ilasGen ∨ p = .alignIns ∨ p = .txFsm ∨ p = .txSyncLoss)
    (hi : decodeSel p (txSel lk s l ⟨p, n, j⟩) n j = .ok i)
    (he : ∀ N G, exec i { s with nxt := N, sig := G } = .next { s with nxt := r N, sig := g G }) : Acts s [⟨p, n, j⟩] r g := by
  intro N G
  obtain ⟨hl, hn, -⟩ := h
  rw [runInstances_singleton, runInstance_tx (s := { s with nxt := N, sig := G }) hl hn j hp]
  exact (runSel_ok hi _).trans (he N G)

/-- An RX lane's component does what the operation does that its select word names. -/
theorem acts_rx {lk : Link} {n : Nat} {l : RxLane} {p : Port} {i : Instr} (h : RxAt s lk n l)
    (hp : p = .aligner ∨ p = .cgsCheck ∨ p = .ilasStart ∨ p = .ilasChk ∨ p = .alignRepl ∨ p = .deframer ∨ p = .descr ∨ p = .rxFsm
      ∨ p = .rxIlasErr ∨ p = .rxSyncLoss)
    (hi : decodeSel p (rxSel lk s l ⟨p, n, 0⟩) n 0 = .ok i)
    (he : ∀ N G, exec i { s with nxt := N, sig := G } = .next { s with nxt := r N, sig := g G }) : Acts s [⟨p, n, 0⟩] r g := by
  intro N G
  obtain ⟨hl, hn, -⟩ := h
  rw [runInstances_singleton, runInstance_rx (s := { s with nxt := N, sig := G }) hl hn 0 hp]
  exact (runSel_ok hi _).trans (he N G)

end

/-! ## A write at every place of a list, one place after the other -/

/-- `f`'s write at the places below `k`, none at the others. -/
def below {α : Type*} (k : Nat) (f : Nat → α → α) (n : Nat) (x : α) : α := if n < k then f n x else x

theorem mapIdx_below_zero {α : Type*} (f : Nat → α → α) (xs : List α) : xs.mapIdx (below 0 f) = xs :=
  List.ext_getElem (by simp) fun i h h' => by simp [below]

theorem modify_mapIdx_below {α : Type*} (k : Nat) (f : Nat → α → α) (xs : List α) :
    (xs.mapIdx (below k f)).modify k (f k) = xs.mapIdx (below (k + 1) f) := by
  refine List.ext_getElem (by simp) fun i h h' => ?_
  rw [List.getElem_modify, List.getElem_mapIdx, List.getElem_mapIdx]
  by_cases hik : k = i
  · subst hik
    simp [below]
  · have hlt : i < k + 1 ↔ i < k := by omega
    simp [below, hik, hlt]

theorem mapIdx_below_length {α : Type*} {k : Nat} {xs : List α} (hk : xs.length = k) (f : Nat → α → α) :
    xs.mapIdx (below k f) = xs.mapIdx f :=
  List.mapIdx_eq_mapIdx_iff.mpr fun _ h => if_pos (hk ▸ h)

/-! ## Select words (30_encoding.md R103) -/

theorem sel2_bits2 (a b : Bool) (s0 s1 s2 s3 : Instr) :
    sel2 (bits2 a b) s0 s1 s2 s3 = .ok (if a then if b then s3 else s2 else if b then s1 else s0) := by
  cases a <;> cases b <;> rfl

theorem sel1_bit (b : Bool) (one zero : Instr) : sel1 (bit b) one zero = .ok (if b then one else zero) := by
  cases b <;> rfl

theorem sel2_toNat (c : BitVec 2) (s0 s1 s2 s3 : Instr) :
    sel2 c.toNat s0 s1 s2 s3 = .ok (if c = 0 then s0 else if c = 1 then s1 else if c = 2 then s2 else s3) := by
  have : c = 0 ∨ c = 1 ∨ c = 2 ∨ c = 3 := by revert c; decide
  rcases this with rfl | rfl | rfl | rfl <;> rfl

end Sys2Proof.Machine
end

section
/-! The components of a TX lane in a cycle: each writes its part of the lane's registers and signals of the pure cycle (`txAfter`,
`txSigIn`), and together they write all of it. -/

namespace Sys2Proof.Machine

open Sys2Proof

/-! ## The state register -/

theorem orFallBack_eq (rst resync : Bool) (own : BitVec 2) : orFallBack rst resync own = if rst || resync then 0 else own := by
  cases rst <;> rfl

theorem txStateAfter_sendCgs {lk : Link} {s : State} {l : TxLane} (h : l.state = 0) : txStateAfter lk s l = nextSendCgs s := by
  rw [nextSendCgs, orFallBack_eq, txStateAfter, if_pos h]
  rfl

theorem txStateAfter_sendIlas {lk : Link} {s : State} {l : TxLane} (h : l.state = 1) : txStateAfter lk s l = nextSendIlas lk s l := by
  simp [nextSendIlas, orFallBack_eq, txStateAfter, h, ilasDone, sendData, sendIlas]

theorem txStateAfter_sendData {lk : Link} {s : State} {l : TxLane} (h : l.state = 2) : txStateAfter lk s l = nextSendData lk s l := by
  simp [nextSendData, orFallBack_eq, txStateAfter, h, sendData, sendCgs]

/-! ## One lemma per component -/

theorem txAfter_scrState (lk : Link) (s : State) (n : Nat) (l : TxLane) :
    (txAfter lk s n l).scrState
      = if scrRst s l then Config.seed else if lk.scr then (scramble l.scrState (s.txWord n)).2 else l.scrState := rfl

section
variable {s : State} {lk : Link} {n : Nat} {l : TxLane} (h : TxAt s lk n l)
include h

theorem acts_txDesync :
    Acts s [⟨.txDesync, n, 0⟩] (Regs.modifyTx n fun x => { x with desyncCnt := (txAfter lk s n l).desyncCnt })
      (Sig.modifyTx n fun x => { x with desync := (txSigIn lk s n l).desync }) :=
  acts_tx h (by simp) rfl fun N G => withTx_at (s := { s with nxt := N, sig := G }) h _

theorem acts_framer :
    Acts s [⟨.framer, n, 0⟩] (Regs.modifyTx n fun x => { x with frCnt := (txAfter lk s n l).frCnt })
      (Sig.modifyTx n fun x => { x with lastF := (txSigIn lk s n l).lastF, lastMf := (txSigIn lk s n l).lastMf }) := by
  have hcnt : (txAfter lk s n l).frCnt = if scrRst s l then 0 else if l.frCnt + 1 = lk.c then 0 else l.frCnt + 1 := rfl
  have hmf : (txSigIn lk s n l).lastMf = (List.range lk.opc).map (lastMf lk l) := by
    simp only [txSigIn, Bool.decide_and]
    rfl
  refine acts_tx h (by simp) (sel1_bit (scrRst s l) _ _) fun N G => ?_
  rw [hcnt, hmf]
  cases scrRst s l <;> exact withTx_at (s := { s with nxt := N, sig := G }) h _

/-- The scrambler's state keeps whatever it holds when the scrambler is bypassed. -/
theorem acts_scr :
    Acts s [⟨.scr, n, 0⟩]
      (Regs.modifyTx n fun x =>
        { x with
          scrState := if scrRst s l || lk.scr then (txAfter lk s n l).scrState else x.scrState
          scrOut := (txAfter lk s n l).scrOut
          scrValid := (txAfter lk s n l).scrValid }) id := by
  have hout : (txAfter lk s n l).scrOut
      = if scrRst s l then List.replicate lk.opc 0 else if lk.scr then (scramble l.scrState (s.txWord n)).1 else s.txWord n := rfl
  have hvalid : (txAfter lk s n l).scrValid = !scrRst s l := rfl
  refine acts_tx h (by simp) (sel2_bits2 (scrRst s l) lk.scr _ _ _ _) fun N G => ?_
  rw [txAfter_scrState, hout, hvalid]
  cases scrRst s l <;> cases lk.scr <;> exact withTx_at (s := { s with nxt := N, sig := G }) h _

theorem acts_cgsGen :
    Acts s [⟨.cgsGen, n, 0⟩] id (Sig.modifyTx n fun x => { x with cgsWord := (txSigIn lk s n l).cgsWord }) :=
  acts_tx h (by simp) rfl fun N G => withTx_at (s := { s with nxt := N, sig := G }) h _

theorem acts_txSyncLoss :
    Acts s [⟨.txSyncLoss, n, 0⟩] (Regs.modifyTx n fun x => { x with syncLoss := (txAfter lk s n l).syncLoss }) id := by
  have hloss : (txAfter lk s n l).syncLoss
      = if s.inp.txRst then 0
        else if l.state = sendData ∧ nextSendData lk s l = sendCgs then satInc lk l.syncLoss else l.syncLoss := by
    have hexit : (l.state = 2 ∧ txStateAfter lk s l = 0) ↔ (l.state = sendData ∧ nextSendData lk s l = sendCgs) :=
      and_congr_right fun h2 => by rw [txStateAfter_sendData h2, sendCgs]
    simp only [txAfter, if_congr hexit rfl rfl, satInc]
  rw [hloss]
  exact acts_tx h (by simp) rfl fun N G => withTx_at (s := { s with nxt := N, sig := G }) h _

theorem acts_ilasGen {w : LinkWord} (hw : memReadIlas lk n l.ilasIdx = some w) :
    Acts s [⟨.ilasGen, n, 0⟩] (Regs.modifyTx n fun x => { x with ilasIdx := (txAfter lk s n l).ilasIdx })
      (Sig.modifyTx n fun x => { x with ilasWord := (txSigIn lk s n l).ilasWord, ilasDone := (txSigIn lk s n l).ilasDone }) := by
  have hidx : (txAfter lk s n l).ilasIdx = if ilasRst s l then 0 else nextIndex lk l.ilasIdx := rfl
  have hword : (txSigIn lk s n l).ilasWord = w := by simp [txSigIn, hw]
  refine acts_tx h (by simp) (sel1_bit (ilasRst s l) _ _) fun N G => ?_
  rw [hidx, hword]
  cases ilasRst s l <;> exact (withTx_at (s := { s with nxt := N, sig := G }) h _).trans (withEntry_some hw _)

theorem acts_txFsm {w : LinkWord} (hw : memReadIlas lk n l.ilasIdx = some w) (hc : s.cur.txLmfc.count < lk.c) :
    Acts s [⟨.txFsm, n, 0⟩] (Regs.modifyTx n fun x => { x with state := (txAfter lk s n l).state })
      (Sig.modifyTx n fun x => { x with out := (txSigIn lk s n l).out, ready := (txSigIn lk s n l).ready }) := by
  have hstate : (txAfter lk s n l).state = txStateAfter lk s l := rfl
  refine acts_tx h (by simp) (sel2_toNat l.state _ _ _ _) fun N G => ?_
  rw [hstate]
  have hcode : l.state = 0 ∨ l.state = 1 ∨ l.state = 2 := by
    have := h.2.2
    revert this
    generalize l.state = c
    revert c
    decide
  rcases hcode with h0 | h1 | h2
  · rw [txStateAfter_sendCgs h0]
    simp only [txSigIn, h0]
    exact (withTx_at (s := { s with nxt := N, sig := G }) h _).trans (withCount_ok (e := .tx) hc _)
  · rw [txStateAfter_sendIlas h1]
    simp only [txSigIn, h1, hw]
    exact (withTx_at (s := { s with nxt := N, sig := G }) h _).trans (withEntry_some hw _)
  · rw [txStateAfter_sendData h2]
    simp only [txSigIn, h2]
    exact withTx_at (s := { s with nxt := N, sig := G }) h _

/-- The select bits of a slot name the operation that writes the flag of R196. -/
theorem acts_alignIns {j : Nat} (hj : j < lk.opc) :
    Acts s [⟨.alignIns, n, j⟩] id
      (Sig.modifyTx n fun x => { x with insCtrl := x.insCtrl.set j (insertFlag lk l j (l.scrOut.getD j 0)) }) := by
  have hsel : ∃ i, decodeSel .alignIns (txSel lk s l ⟨.alignIns, n, j⟩) n j = .ok i
      ∧ ∀ t, exec i t = insertAt n j (insertFlag lk l j (l.scrOut.getD j 0)) t := by
    simp only [txSel, slotSel, insertFlag]
    cases lastMf lk l j <;> cases lastF lk j <;> cases l.scrOut.getD j 0 == charA <;> cases l.scrOut.getD j 0 == charF <;>
      exact ⟨_, rfl, fun _ => rfl⟩
  obtain ⟨i, hi, he⟩ := hsel
  refine acts_tx h (by simp) hi fun N G => (he _).trans ?_
  exact (withTx_at (s := { s with nxt := N, sig := G }) h _).trans (if_pos hj)

end

end Sys2Proof.Machine
end

section
/-! A TX lane in a cycle: its components together. -/

namespace Sys2Proof.Machine

open Sys2Proof

/-- What a TX lane's components make of the lane's next register values: all but a scrambler state on bypass. -/
def txWrite (lk : Link) (s : State) (n : Nat) (l x : TxLane) : TxLane :=
  { txAfter lk s n l with scrState := if scrRst s l || lk.scr then (txAfter lk s n l).scrState else x.scrState }

/-- What a TX lane's components make of the lane's signals: one inserter flag per slot, and all others. -/
def txDrive (lk : Link) (s : State) (n : Nat) (l : TxLane) (x : TxSig) : TxSig :=
  { txSigIn lk s n l with insCtrl := x.insCtrl.mapIdx (below lk.opc fun j _ => insertFlag lk l j (l.scrOut.getD j 0)) }

/-- On the registers of the cycle's start the components write the pure cycle's registers. -/
theorem txWrite_self (lk : Link) (s : State) (n : Nat) (l : TxLane) : txWrite lk s n l l = txAfter lk s n l := by
  have hkeep : (if scrRst s l || lk.scr then (txAfter lk s n l).scrState else l.scrState) = (txAfter lk s n l).scrState := by
    rw [txAfter_scrState]
    cases scrRst s l <;> cases lk.scr <;> rfl
  rw [txWrite, hkeep]

/-- With one inserter flag per slot the components drive the pure cycle's signals. -/
theorem txDrive_eq {lk : Link} {l : TxLane} {x : TxSig} (hl : l.scrOut.length = lk.opc) (hx : x.insCtrl.length = lk.opc) (s : State)
    (n : Nat) : txDrive lk s n l x = txSigIn lk s n l := by
  have hflags : x.insCtrl.mapIdx (fun j _ => insertFlag lk l j (l.scrOut.getD j 0)) = (insertedWord lk l).map Sym.ctrl :=
    List.ext_getElem (by simp [insertedWord, hl, hx]) fun j hj hj' => by
      have : j < l.scrOut.length := by simpa [insertedWord] using hj'
      simp [insertedWord, this]
  rw [txDrive, mapIdx_below_length hx, hflags]
  rfl

section
variable {s : State} {lk : Link} {n : Nat} {l : TxLane} (h : TxAt s lk n l)
include h

theorem acts_slots {k : Nat} (hk : k ≤ lk.opc) :
    Acts s ((List.range k).map fun j => ⟨.alignIns, n, j⟩) id
      (Sig.modifyTx n fun x => { x with insCtrl := x.insCtrl.mapIdx (below k fun j _ => insertFlag lk l j (l.scrOut.getD j 0)) }) := by
  induction k with
  | zero =>
    refine Acts.nil.congr rfl (funext fun G => ?_)
    simp only [mapIdx_below_zero, Sig.modifyTx]
    exact congrArg (fun v => { G with tx := v }) (List.modify_id n G.tx).symm
  | succ k ih =>
    rw [List.range_succ, List.map_append]
    refine ((ih (by omega)).append (acts_alignIns h (Nat.lt_of_succ_le hk))).congr rfl ?_
    rw [Sig.modifyTx_comp]
    congr 1
    funext x
    simp only [Function.comp_apply, List.set_eq_modify, ← modify_mapIdx_below]

/-- A TX lane's components in a cycle. -/
theorem acts_txLane {w : LinkWord} (hw : memReadIlas lk n l.ilasIdx = some w) (hc : s.cur.txLmfc.count < lk.c) :
    Acts s (txInstances lk.opc n) (Regs.modifyTx n (txWrite lk s n l)) (Sig.modifyTx n (txDrive lk s n l)) := by
  have front := ((((acts_txDesync h).append (acts_framer h)).append (acts_scr h)).append (acts_cgsGen h)).append (acts_ilasGen h hw)
  have back := (acts_txFsm h hw hc).append (acts_txSyncLoss h)
  refine ((front.append (acts_slots h le_rfl)).append back).congr ?_ ?_
  · simp only [Function.id_comp, Regs.modifyTx_comp]
    rfl
  · simp only [Function.id_comp, Sig.modifyTx_comp]
    rfl

end

end Sys2Proof.Machine
end

section
/-! The components of an RX lane in a cycle: each writes its part of the lane's registers and signals of the pure cycle (`rxAfter`,
`rxSigIn`), and together they write all of it. -/

namespace Sys2Proof.Machine

open Sys2Proof

/-! ## The state register -/

theorem rxStateAfter_receiveCgs {lk : Link} {s : State} {n : Nat} {l : RxLane} (h : l.state = 0) :
    rxStateAfter lk s n l = nextReceiveCgs s (alignedWord lk s n l) := by
  simp [nextReceiveCgs, orFallBack_eq, rxStateAfter, h, assertSync, receiveCgs]

theorem rxStateAfter_assertSync {lk : Link} {s : State} {n : Nat} {l : RxLane} (h : l.state = 1) :
    rxStateAfter lk s n l = nextAssertSync s (alignedWord lk s n l) := by
  simp [nextAssertSync, orFallBack_eq, rxStateAfter, h, assertSync, receiveIlas]

/-- The checker's comparison with the table entry `e` (R228). -/
theorem icMatches_eq_icValid {lk : Link} {n : Nat} {l : RxLane} {e : LinkWord} (he : memReadIlas lk n l.icIdx = some e) :
    icMatches lk n l = icValid l e := by
  rw [icMatches, icValid, he, Bool.eq_iff_iff, beq_iff_eq, beq_iff_eq, Option.some_inj, eq_comm]

theorem rxStateAfter_receiveIlas {lk : Link} {s : State} {n : Nat} {l : RxLane} {e : LinkWord} (h : l.state = 2)
    (he : memReadIlas lk n l.icIdx = some e) : rxStateAfter lk s n l = nextReceiveIlas lk s l (icValid l e) := by
  simp [nextReceiveIlas, orFallBack_eq, rxStateAfter, h, icMatches_eq_icValid he, icDone, receiveCgs, receiveData, receiveIlas]

theorem rxStateAfter_receiveData {lk : Link} {s : State} {n : Nat} {l : RxLane} (h : l.state = 3) :
    rxStateAfter lk s n l = nextReceiveData s (alignedWord lk s n l) := by
  simp [nextReceiveData, orFallBack_eq, rxStateAfter, h, receiveCgs, receiveData]

/-! ## The data path -/

/-- The select bit `r_found` says whether the Aligner finds a slot (R203). -/
theorem rFound_eq_isSome (j : Nat) (w : LinkWord) : rFound w = (lowestR j w).isSome := by
  induction w generalizing j with
  | nil => rfl
  | cons x t ih =>
    have ht := ih (j + 1)
    simp only [rFound, List.any_cons, lowestR] at ht ⊢
    cases isR x <;> simp [ht]

/-- The descrambler's input is the aligned word's octets (R198 to R200). -/
theorem rxDataWord_eq (lk : Link) (s : State) (n : Nat) (l : RxLane) : rxDataWord lk s n l = (alignedWord lk s n l).data := by
  simp [rxDataWord, deframe, replaceFlags, LinkWord.data]

/-! ## One lemma per component -/

theorem rxAfter_alOff (lk : Link) (s : State) (n : Nat) (l : RxLane) :
    (rxAfter lk s n l).alOff = if s.inp.rxRst then 0 else (lowestR 0 (s.rxWord n)).getD l.alOff := rfl

theorem rxAfter_dscrState (lk : Link) (s : State) (n : Nat) (l : RxLane) :
    (rxAfter lk s n l).dscrState
      = if dscrRst s l then Config.seed
        else if lk.scr then (descramble l.dscrState (alignedWord lk s n l).data).2 else l.dscrState := rfl

section
variable {s : State} {lk : Link} {n : Nat} {l : RxLane} (h : RxAt s lk n l)
include h

/-- The offset keeps whatever it holds when no `/R/` is found. -/
theorem acts_aligner :
    Acts s [⟨.aligner, n, 0⟩]
      (Regs.modifyRx n fun x =>
        { x with
          alPrev := (rxAfter lk s n l).alPrev
          alOff := if s.inp.rxRst || rFound (s.rxWord n) then (rxAfter lk s n l).alOff else x.alOff })
      (Sig.modifyRx n fun x => { x with aligned := (rxSigIn lk s n l).aligned }) := by
  have hprev : (rxAfter lk s n l).alPrev = if s.inp.rxRst then List.replicate lk.opc Sym.zero else s.rxWord n := rfl
  refine acts_rx h (by simp) (sel2_bits2 s.inp.rxRst (rFound (s.rxWord n)) _ _ _ _) fun N G => ?_
  rw [hprev, rxAfter_alOff]
  cases s.inp.rxRst <;> cases rFound (s.rxWord n) <;> exact withRx_at (s := { s with nxt := N, sig := G }) h _

theorem acts_cgsCheck :
    Acts s [⟨.cgsCheck, n, 0⟩] id (Sig.modifyRx n fun x => { x with cgsValid := (rxSigIn lk s n l).cgsValid }) :=
  acts_rx h (by simp) rfl fun N G => withRx_at (s := { s with nxt := N, sig := G }) h _

theorem acts_ilasStart :
    Acts s [⟨.ilasStart, n, 0⟩] id (Sig.modifyRx n fun x => { x with startValid := (rxSigIn lk s n l).startValid }) :=
  acts_rx h (by simp) rfl fun N G => withRx_at (s := { s with nxt := N, sig := G }) h _

theorem acts_alignRepl :
    Acts s [⟨.alignRepl, n, 0⟩] id (Sig.modifyRx n fun x => { x with replaced := (rxSigIn lk s n l).replaced }) :=
  acts_rx h (by simp) rfl fun N G => withRx_at (s := { s with nxt := N, sig := G }) h _

theorem acts_deframer :
    Acts s [⟨.deframer, n, 0⟩] id (Sig.modifyRx n fun x => { x with deframed := (rxSigIn lk s n l).deframed }) := by
  have hword : (rxSigIn lk s n l).deframed = rxDataWord lk s n l := (rxDataWord_eq lk s n l).symm
  rw [hword]
  exact acts_rx h (by simp) rfl fun N G => withRx_at (s := { s with nxt := N, sig := G }) h _

/-- The descrambler's state keeps whatever it holds when the descrambler is bypassed. -/
theorem acts_descr :
    Acts s [⟨.descr, n, 0⟩]
      (Regs.modifyRx n fun x =>
        { x with
          dscrState := if dscrRst s l || lk.scr then (rxAfter lk s n l).dscrState else x.dscrState
          dscrOut := (rxAfter lk s n l).dscrOut
          dscrValid := (rxAfter lk s n l).dscrValid })
      (Sig.modifyRx n fun x => { x with out := (rxSigIn lk s n l).out, outValid := (rxSigIn lk s n l).outValid }) := by
  have hout : (rxAfter lk s n l).dscrOut
      = if dscrRst s l then List.replicate lk.opc 0
        else if lk.scr then (descramble l.dscrState (alignedWord lk s n l).data).1 else (alignedWord lk s n l).data := rfl
  have hvalid : (rxAfter lk s n l).dscrValid = !dscrRst s l := rfl
  refine acts_rx h (by simp) (sel2_bits2 (dscrRst s l) lk.scr _ _ _ _) fun N G => ?_
  rw [rxAfter_dscrState, hout, hvalid, ← rxDataWord_eq]
  cases dscrRst s l <;> cases lk.scr <;> exact withRx_at (s := { s with nxt := N, sig := G }) h _

variable {e : LinkWord} (he : memReadIlas lk n l.icIdx = some e)
include he

theorem acts_ilasChk :
    Acts s [⟨.ilasChk, n, 0⟩]
      (Regs.modifyRx n fun x => { x with icIn := (rxAfter lk s n l).icIn, icIdx := (rxAfter lk s n l).icIdx })
      (Sig.modifyRx n fun x => { x with icValid := (rxSigIn lk s n l).icValid, icDone := (rxSigIn lk s n l).icDone }) := by
  have hidx : (rxAfter lk s n l).icIdx = if icRst s l then 0 else nextIndex lk l.icIdx := rfl
  have hvalid : (rxSigIn lk s n l).icValid = icValid l e := icMatches_eq_icValid he
  refine acts_rx h (by simp) (sel1_bit (icRst s l) _ _) fun N G => ?_
  rw [hidx, hvalid]
  cases icRst s l <;> exact (withRx_at (s := { s with nxt := N, sig := G }) h _).trans (withEntry_some he _)

theorem acts_rxFsm (hc : s.cur.rxLmfc.count < lk.c) :
    Acts s [⟨.rxFsm, n, 0⟩] (Regs.modifyRx n fun x => { x with state := (rxAfter lk s n l).state })
      (Sig.modifyRx n fun x =>
        { x with
          align := (rxSigIn lk s n l).align
          jsync := (rxSigIn lk s n l).jsync
          ready := (rxSigIn lk s n l).ready }) := by
  have hstate : (rxAfter lk s n l).state = rxStateAfter lk s n l := rfl
  refine acts_rx h (by simp) (sel2_toNat l.state _ _ _ _) fun N G => ?_
  rw [hstate]
  have hcode : l.state = 0 ∨ l.state = 1 ∨ l.state = 2 ∨ l.state = 3 := by
    generalize l.state = c
    revert c
    decide
  rcases hcode with h0 | h1 | h2 | h3
  · rw [rxStateAfter_receiveCgs h0]
    simp only [rxSigIn, h0]
    exact (withRx_at (s := { s with nxt := N, sig := G }) h _).trans (withCount_ok (e := .rx) hc _)
  · rw [rxStateAfter_assertSync h1]
    simp only [rxSigIn, h1]
    exact withRx_at (s := { s with nxt := N, sig := G }) h _
  · rw [rxStateAfter_receiveIlas h2 he]
    simp only [rxSigIn, h2]
    exact (withRx_at (s := { s with nxt := N, sig := G }) h _).trans (withEntry_some he _)
  · rw [rxStateAfter_receiveData h3]
    simp only [rxSigIn, h3]
    exact withRx_at (s := { s with nxt := N, sig := G }) h _

theorem acts_rxIlasErr :
    Acts s [⟨.rxIlasErr, n, 0⟩] (Regs.modifyRx n fun x => { x with ilasErr := (rxAfter lk s n l).ilasErr }) id := by
  have herr : (rxAfter lk s n l).ilasErr
      = if s.inp.rxRst then 0
        else if l.state = receiveIlas ∧ icValid l e = false then satInc lk l.ilasErr else l.ilasErr := by
    rw [← icMatches_eq_icValid he]
    rfl
  rw [herr]
  exact acts_rx h (by simp) rfl fun N G => (withRx_at (s := { s with nxt := N, sig := G }) h _).trans (withEntry_some he _)

theorem acts_rxSyncLoss :
    Acts s [⟨.rxSyncLoss, n, 0⟩] (Regs.modifyRx n fun x => { x with syncLoss := (rxAfter lk s n l).syncLoss }) id := by
  have hexit : ((l.state = 2 ∨ l.state = 3) ∧ rxStateAfter lk s n l = 0) ↔ rxLosesSync lk s l e (alignedWord lk s n l) = true := by
    simp only [rxLosesSync, Bool.or_eq_true, Bool.and_eq_true, beq_iff_eq, or_and_right]
    refine or_congr (and_congr_right fun h2 => ?_) (and_congr_right fun h3 => ?_)
    · rw [rxStateAfter_receiveIlas h2 he, receiveCgs]
    · rw [rxStateAfter_receiveData h3, receiveCgs]
  have hloss : (rxAfter lk s n l).syncLoss
      = if s.inp.rxRst then 0
        else if rxLosesSync lk s l e (alignedWord lk s n l) then satInc lk l.syncLoss else l.syncLoss := by
    simp only [rxAfter, if_congr hexit rfl rfl, satInc]
  rw [hloss]
  exact acts_rx h (by simp) rfl fun N G =>
    (withRx_at (s := { s with nxt := N, sig := G }) h _).trans (withEntry_some he _)

end

/-! ## Together -/

/-- What an RX lane's components make of the lane's next register values: all but an offset without `/R/`, and a descrambler state on
bypass. -/
def rxWrite (lk : Link) (s : State) (n : Nat) (l x : RxLane) : RxLane :=
  { rxAfter lk s n l with
    alOff := if s.inp.rxRst || rFound (s.rxWord n) then (rxAfter lk s n l).alOff else x.alOff
    dscrState := if dscrRst s l || lk.scr then (rxAfter lk s n l).dscrState else x.dscrState }

/-- On the registers of the cycle's start the components write the pure cycle's registers. -/
theorem rxWrite_self (lk : Link) (s : State) (n : Nat) (l : RxLane) : rxWrite lk s n l l = rxAfter lk s n l := by
  have hoff : (if s.inp.rxRst || rFound (s.rxWord n) then (rxAfter lk s n l).alOff else l.alOff) = (rxAfter lk s n l).alOff := by
    rw [rxAfter_alOff, rFound_eq_isSome 0]
    cases s.inp.rxRst <;> cases lowestR 0 (s.rxWord n) <;> rfl
  have hstate : (if dscrRst s l || lk.scr then (rxAfter lk s n l).dscrState else l.dscrState) = (rxAfter lk s n l).dscrState := by
    rw [rxAfter_dscrState]
    cases dscrRst s l <;> cases lk.scr <;> rfl
  rw [rxWrite, hoff, hstate]

/-- An RX lane's components in a cycle. -/
theorem acts_rxLane {s : State} {lk : Link} {n : Nat} {l : RxLane} (h : RxAt s lk n l) {e : LinkWord}
    (he : memReadIlas lk n l.icIdx = some e) (hc : s.cur.rxLmfc.count < lk.c) :
    Acts s (rxInstances n) (Regs.modifyRx n (rxWrite lk s n l)) (Sig.modifyRx n fun _ => rxSigIn lk s n l) := by
  have checks := (((acts_aligner h).append (acts_cgsCheck h)).append (acts_ilasStart h)).append (acts_ilasChk h he)
  have path := ((acts_alignRepl h).append (acts_deframer h)).append (acts_descr h)
  have fsm := ((acts_rxFsm h he hc).append (acts_rxIlasErr h he)).append (acts_rxSyncLoss h he)
  refine ((checks.append path).append fsm).congr ?_ ?_
  · simp only [Function.id_comp, Function.comp_id, Regs.modifyRx_comp]
    rfl
  · simp only [Function.id_comp, Sig.modifyRx_comp]
    rfl

end Sys2Proof.Machine
end

section
/-! The LMFC dividers and the aggregates in a cycle, and the ILAS entries that a lane in range reads. -/

namespace Sys2Proof.Machine

open Sys2Proof

/-! ## The tables of a built link (41_link_settings.md R134, 45_cgs_ilas.md R223) -/

/-- A built link's lanes' settings are those of R130, and its tables those of R223. -/
theorem linkBuild_lanes {p : Params} {c : Settings} {lk : Link} (h : linkBuild p c = .ok lk) :
    laneSettingsFrom p c 0 lk.lanes = .ok lk.laneCfg
      ∧ lk.table = lk.laneCfg.map (ilasTable p.ilasCounter (lk.k * lk.f) lk.opc lk.len) := by
  simp only [linkBuild] at h
  split at h
  · cases h
  split at h
  · cases h
  split at h
  · cases h
  split at h
  · cases h
  split at h
  · cases h
  split at h
  · cases h
  split at h
  · cases h
  rename_i lanes hlanes
  cases h
  exact ⟨hlanes, rfl⟩

theorem laneSettingsFrom_length {p : Params} {c : Settings} {n k : Nat} {xs : List Settings} (h : laneSettingsFrom p c n k = .ok xs) :
    xs.length = k := by
  induction k generalizing n xs with
  | zero =>
    cases h
    rfl
  | succ k ih =>
    simp only [laneSettingsFrom] at h
    split at h
    · cases h
    split at h
    · cases h
    rename_i ht
    cases h
    rw [List.length_cons, ih ht]

/-- Every lane has an entry for every index below LEN (20_memory.md R74). -/
theorem linkBuild_entry {p : Params} {c : Settings} {lk : Link} (h : linkBuild p c = .ok lk) {n i : Nat} (hn : n < lk.lanes)
    (hi : i < lk.len) : ∃ w, memReadIlas lk n i = some w := by
  obtain ⟨hlanes, htable⟩ := linkBuild_lanes h
  have hn' : n < lk.laneCfg.length := (laneSettingsFrom_length hlanes).symm ▸ hn
  exact Option.isSome_iff_exists.mp (by simp [memReadIlas, hi, htable, hn', ilasTable])

/-! ## LMFC (R150 to R152) -/

/-- An engine's LMFC registers set. -/
def Regs.putLmfc : Engine → Lmfc → Regs → Regs
  | .tx, v, r => { r with txLmfc := v }
  | .rx, v, r => { r with rxLmfc := v }

/-- An engine's LMFC signals driven. -/
def Sig.putLmfc : Engine → Bool → Bool → Sig → Sig
  | .tx, zero, rise, x => { x with txLmfcZero := zero, txJrefRise := rise }
  | .rx, zero, rise, x => { x with rxLmfcZero := zero, rxJrefRise := rise }

theorem driveLmfc_setLmfc (s : State) (e : Engine) (v : Lmfc) :
    (s.driveLmfc e).setLmfc e v
      = { s with nxt := Regs.putLmfc e v s.nxt, sig := Sig.putLmfc e (lmfcZero s e) (jrefRise s e) s.sig } := by
  cases e <;> rfl

/-- The three states that are not RECEIVE_CGS (R264). -/
theorem rxJsync_eq (l : RxLane) : rxJsync l = (l.state != 0) := by
  unfold rxJsync
  generalize l.state = c
  revert c
  decide

section
variable {s : State} {lk : Link} (hl : s.link = some lk)
include hl

theorem exec_lmfcReset (e : Engine) (hc : (s.lmfc e).count < lk.c) (b : Bool) :
    exec (.lmfcReset e b) s = .next ((s.driveLmfc e).setLmfc e ⟨0, false⟩) := by
  rw [exec, execLmfcReset, withLmfc_at hl hc]

theorem exec_lmfcLoad (e : Engine) (hc : (s.lmfc e).count < lk.c) :
    exec (.lmfcLoad e) s = .next ((s.driveLmfc e).setLmfc e ⟨lk.params.lmfcLoad, s.jref e⟩) := by
  rw [exec, execLmfcLoad, withLmfc_at hl hc]

theorem exec_lmfcCount (e : Engine) (hc : (s.lmfc e).count < lk.c) :
    exec (.lmfcCount e) s = .next ((s.driveLmfc e).setLmfc e ⟨((s.lmfc e).count + 1) % lk.c, s.jref e⟩) := by
  rw [exec, execLmfcCount, withLmfc_at hl hc]

theorem acts_lmfc (e : Engine) (hc : (s.lmfc e).count < lk.c) :
    Acts s [⟨.lmfc, e.num, 0⟩] (Regs.putLmfc e (lmfcAfter lk s e)) (Sig.putLmfc e (lmfcZero s e) (jrefRise s e)) := by
  intro N G
  have hrun : runInstance ⟨.lmfc, e.num, 0⟩ { s with nxt := N, sig := G }
      = runSel .lmfc (lmfcSel s e) e.num 0 { s with nxt := N, sig := G } := by
    cases e <;> exact withLink_some (s := { s with nxt := N, sig := G }) hl _
  have hsel : decodeSel .lmfc (lmfcSel s e) e.num 0
      = .ok (if s.rst e then if jrefRise s e then .lmfcReset e true else .lmfcReset e false
             else if jrefRise s e then .lmfcLoad e else .lmfcCount e) := by
    cases e <;> exact sel2_bits2 _ _ _ _ _ _
  have hexec : exec (if s.rst e then if jrefRise s e then .lmfcReset e true else .lmfcReset e false
        else if jrefRise s e then .lmfcLoad e else .lmfcCount e) { s with nxt := N, sig := G }
      = .next ((({ s with nxt := N, sig := G } : State).driveLmfc e).setLmfc e (lmfcAfter lk s e)) := by
    rw [lmfcAfter]
    cases s.rst e <;> cases jrefRise s e
    · exact exec_lmfcCount (s := { s with nxt := N, sig := G }) hl e hc
    · exact exec_lmfcLoad (s := { s with nxt := N, sig := G }) hl e hc
    · exact exec_lmfcReset (s := { s with nxt := N, sig := G }) hl e hc false
    · exact exec_lmfcReset (s := { s with nxt := N, sig := G }) hl e hc true
  rw [runInstances_singleton, hrun, runSel_ok hsel, hexec, driveLmfc_setLmfc]
  rfl

/-! ## Aggregates (R259, R270) -/

theorem acts_txAgg (h3 : ∀ l ∈ s.cur.tx, l.state ≠ 3) :
    Acts s [⟨.txAgg, 0, 0⟩] id fun G => { G with txReady := s.cur.tx.all fun l => l.state == 2 } := by
  intro N G
  rw [runInstances_singleton]
  exact ((withLink_some (s := { s with nxt := N, sig := G }) hl _).trans (withLink_some (s := { s with nxt := N, sig := G }) hl _)).trans
    (withTxStates_ok (s := { s with nxt := N, sig := G }) h3 _)

theorem acts_rxAgg (hc : s.cur.rxLmfc.count < lk.c) : Acts s [⟨.rxAgg, 0, 0⟩] (fun N => { N with agg := aggAfter s }) id := by
  intro N G
  have hagg : aggAfter s = if s.inp.rxRst then ⟨false, false⟩
      else if lmfcZero s .rx then ⟨s.cur.rx.all rxJsync, s.cur.rx.all rxReady⟩ else s.cur.agg := by
    rw [funext rxJsync_eq]
    rfl
  rw [runInstances_singleton, hagg]
  exact ((withLink_some (s := { s with nxt := N, sig := G }) hl _).trans (withLink_some (s := { s with nxt := N, sig := G }) hl _)).trans
    (withCount_ok (s := { s with nxt := N, sig := G }) (e := .rx) hc _)

end

end Sys2Proof.Machine
end

section
/-! A whole cycle: every component of every lane, and then the clock edge, is the pure cycle (20_memory.md R81). -/

namespace Sys2Proof.Machine

open Sys2Proof

/-! ## Lane after lane -/

theorem acts_txLanes {s : State} {inst : Nat → List Instance} {f : Nat → TxLane → TxLane} {g : Nat → TxSig → TxSig} {k : Nat}
    (h : ∀ n < k, Acts s (inst n) (Regs.modifyTx n (f n)) (Sig.modifyTx n (g n))) :
    Acts s ((List.range k).flatMap inst) (fun N => { N with tx := N.tx.mapIdx (below k f) })
      (fun G => { G with tx := G.tx.mapIdx (below k g) }) := by
  induction k with
  | zero =>
    simp only [mapIdx_below_zero]
    exact Acts.nil
  | succ k ih =>
    rw [List.range_succ, List.flatMap_append, List.flatMap_singleton]
    simp only [← modify_mapIdx_below]
    exact (ih fun n hn => h n (by omega)).append (h k (by omega))

theorem acts_rxLanes {s : State} {inst : Nat → List Instance} {f : Nat → RxLane → RxLane} {g : Nat → RxSig → RxSig} {k : Nat}
    (h : ∀ n < k, Acts s (inst n) (Regs.modifyRx n (f n)) (Sig.modifyRx n (g n))) :
    Acts s ((List.range k).flatMap inst) (fun N => { N with rx := N.rx.mapIdx (below k f) })
      (fun G => { G with rx := G.rx.mapIdx (below k g) }) := by
  induction k with
  | zero =>
    simp only [mapIdx_below_zero]
    exact Acts.nil
  | succ k ih =>
    rw [List.range_succ, List.flatMap_append, List.flatMap_singleton]
    simp only [← modify_mapIdx_below]
    exact (ih fun n hn => h n (by omega)).append (h k (by omega))

/-- TX lane `n`'s registers in the cycle. A lane that the engine does not have stands at reset; nothing reads it. -/
def State.txLane (s : State) (n : Nat) : TxLane := s.cur.tx.getD n (TxLane.reset 0)

/-- RX lane `n`'s registers in the cycle. A lane that the engine does not have stands at reset; nothing reads it. -/
def State.rxLane (s : State) (n : Nat) : RxLane := s.cur.rx.getD n (RxLane.reset 0)

theorem State.txLane_getElem {s : State} {n : Nat} (h : n < s.cur.tx.length) : s.txLane n = s.cur.tx[n] :=
  List.getD_eq_getElem _ _ h

theorem State.rxLane_getElem {s : State} {n : Nat} (h : n < s.cur.rx.length) : s.rxLane n = s.cur.rx[n] :=
  List.getD_eq_getElem _ _ h

/-- What a cycle's components make of the next register values. -/
def cycleWrite (lk : Link) (s : State) (N : Regs) : Regs :=
  { txLmfc := lmfcAfter lk s .tx
    rxLmfc := lmfcAfter lk s .rx
    tx := N.tx.mapIdx (below lk.lanes fun n => txWrite lk s n (s.txLane n))
    rx := N.rx.mapIdx (below lk.lanes fun n => rxWrite lk s n (s.rxLane n))
    agg := aggAfter s }

/-- What a cycle's components make of the signals. -/
def cycleDrive (lk : Link) (s : State) (G : Sig) : Sig :=
  { txLmfcZero := lmfcZero s .tx
    txJrefRise := jrefRise s .tx
    rxLmfcZero := lmfcZero s .rx
    rxJrefRise := jrefRise s .rx
    txReady := s.cur.tx.all (fun l => l.state == 2)
    tx := G.tx.mapIdx (below lk.lanes fun n => txDrive lk s n (s.txLane n))
    rx := G.rx.mapIdx (below lk.lanes fun n _ => rxSigIn lk s n (s.rxLane n)) }

section
variable {s : State} {lk : Link} (hs : Consistent s) (hl : s.link = some lk)
include hs hl

/-- A consistent state's TX lane is in a legal state, with its ILAS entry in the table. -/
theorem Consistent.txAt {n : Nat} (hn : n < lk.lanes) :
    TxAt s lk n (s.txLane n) ∧ ∃ w, memReadIlas lk n (s.txLane n).ilasIdx = some w := by
  obtain ⟨hb, ⟨-, -, htx, -, hok, -⟩, -⟩ := hs lk hl
  have hlen : n < s.cur.tx.length := htx ▸ hn
  obtain ⟨h3, hidx, -⟩ := hok _ (List.getElem_mem hlen)
  rw [State.txLane_getElem hlen]
  exact ⟨⟨hl, List.getElem?_eq_getElem hlen, h3⟩, linkBuild_entry hb hn hidx⟩

/-- A consistent state's RX lane has a legal offset, with its ILAS entry in the table. -/
theorem Consistent.rxAt {n : Nat} (hn : n < lk.lanes) :
    RxAt s lk n (s.rxLane n) ∧ ∃ e, memReadIlas lk n (s.rxLane n).icIdx = some e := by
  obtain ⟨hb, ⟨-, -, -, hrx, -, hok⟩, -⟩ := hs lk hl
  have hlen : n < s.cur.rx.length := hrx ▸ hn
  obtain ⟨-, hoff, -, hidx, -⟩ := hok _ (List.getElem_mem hlen)
  rw [State.rxLane_getElem hlen]
  exact ⟨⟨hl, List.getElem?_eq_getElem hlen, hoff⟩, linkBuild_entry hb hn hidx⟩

theorem acts_cycle : Acts s (cycleInstances lk.opc lk.lanes) (cycleWrite lk s) (cycleDrive lk s) := by
  obtain ⟨-, ⟨htc, hrc, -, -, htx, -⟩, -⟩ := hs lk hl
  have txLanes := acts_txLanes (s := s) (k := lk.lanes) fun n hn =>
    let ⟨hat, _, hw⟩ := hs.txAt hl hn
    acts_txLane hat hw htc
  have rxLanes := acts_rxLanes (s := s) (k := lk.lanes) fun n hn =>
    let ⟨hat, _, he⟩ := hs.rxAt hl hn
    acts_rxLane hat he hrc
  have tx := ((acts_lmfc hl .tx htc).append txLanes).append (acts_txAgg hl fun l h => (htx l h).1)
  exact ((tx.append (acts_lmfc hl .rx hrc)).append rxLanes).append (acts_rxAgg hl hrc)

/-- From the registers of the cycle's start the components write those of the pure cycle. -/
theorem cycleWrite_cur : cycleWrite lk s s.cur = regsAfter lk s := by
  obtain ⟨-, ⟨-, -, htx, hrx, -⟩, -⟩ := hs lk hl
  have htx' : s.cur.tx.mapIdx (fun n => txWrite lk s n (s.txLane n)) = s.cur.tx.mapIdx (txAfter lk s) :=
    List.mapIdx_eq_mapIdx_iff.mpr fun n hn => by rw [State.txLane_getElem hn, txWrite_self]
  have hrx' : s.cur.rx.mapIdx (fun n => rxWrite lk s n (s.rxLane n)) = s.cur.rx.mapIdx (rxAfter lk s) :=
    List.mapIdx_eq_mapIdx_iff.mpr fun n hn => by rw [State.rxLane_getElem hn, rxWrite_self]
  rw [cycleWrite, mapIdx_below_length htx, mapIdx_below_length hrx, htx', hrx', regsAfter]

/-- The components drive the signals of the pure cycle. -/
theorem cycleDrive_sig : cycleDrive lk s s.sig = sigIn lk s := by
  obtain ⟨-, ⟨-, -, htx, hrx, hok, -⟩, -, -, hgtx, hgrx, hflags⟩ := hs lk hl
  have htx' : s.sig.tx.mapIdx (fun n => txDrive lk s n (s.txLane n)) = s.cur.tx.mapIdx (txSigIn lk s) :=
    List.ext_getElem (by simp [hgtx, htx]) fun n hn hn' => by
      rw [List.length_mapIdx] at hn hn'
      obtain ⟨-, -, hout, -⟩ := hok _ (List.getElem_mem hn')
      rw [List.getElem_mapIdx, List.getElem_mapIdx, State.txLane_getElem hn', txDrive_eq hout (hflags _ (List.getElem_mem hn))]
  have hrx' : s.sig.rx.mapIdx (fun n _ => rxSigIn lk s n (s.rxLane n)) = s.cur.rx.mapIdx (rxSigIn lk s) :=
    List.ext_getElem (by simp [hgrx, hrx]) fun n hn hn' => by
      rw [List.length_mapIdx] at hn'
      rw [List.getElem_mapIdx, List.getElem_mapIdx, State.rxLane_getElem hn']
  rw [cycleDrive, mapIdx_below_length hgtx, mapIdx_below_length hgrx, htx', hrx', sigIn]

/-- Every component of a consistent state's engines completes; with no write pending, together they make the pure cycle. -/
theorem runInstances_cycle (hset : Settled s) :
    runInstances (cycleInstances lk.opc lk.lanes) s = .next { s with nxt := regsAfter lk s, sig := sigIn lk s } := by
  have hacts := acts_cycle hs hl s.nxt s.sig
  have hwrite : cycleWrite lk s s.nxt = regsAfter lk s := (congrArg _ hset).trans (cycleWrite_cur hs hl)
  rwa [hwrite, cycleDrive_sig hs hl] at hacts

end

/-- A state that presents a fitting cycle's inputs is consistent. -/
theorem Consistent.seen {s : State} {lk : Link} {inp : CycleInputs} (hs : Consistent s) (hl : s.link = some lk)
    (hf : fits lk.opc lk.lanes inp = true) : Consistent (seen inp s) :=
  keepsConsistent_runSymbols (stimulusSymbols inp) (hs.applyInputs hl hf) _ (runSymbols_stimulus inp s)

/-- A fitting cycle of stimulus on a built link, in a state with the invariant, is the pure cycle. -/
theorem runCycle_eq {s : State} {lk : Link} {inp : CycleInputs} (hs : Inv s) (hl : s.link = some lk)
    (hf : fits lk.opc lk.lanes inp = true) :
    runCycle inp s = .next { s with cur := regsAfter lk (seen inp s), nxt := regsAfter lk (seen inp s), inp := portsOf inp,
                                    sig := sigIn lk (seen inp s) } := by
  obtain ⟨hcons, hset⟩ := hs
  have hrun := runInstances_cycle (hcons.seen hl hf) hl hset
  rw [runCycle, withLink_some hl, if_pos hf, runSymbols_stimulus, andThen_next_left, hrun]
  rfl

/-- A cycle of stimulus at the head of the program is taken off it and run. -/
theorem step_cycle {s : State} {inp : CycleInputs} {rest : List Item} (hp : s.program = .cycle inp :: rest) :
    step s = runCycle inp { s with program := rest } := by
  simp only [step, present, hp]

end Sys2Proof.Machine

namespace Sys2Proof.Proofs

open Sys2Proof Sys2Proof.Machine

/-- Settles O51: the symbols of the stimulus fill the input ports, every component then writes its own part of the next registers and
signals as a function of the registers of the cycle's start (`Acts`), lane after lane, and the clock edge takes all of them over. -/
theorem cycleIsTheSimultaneousUpdate : Obligations.CycleIsTheSimultaneousUpdate := by
  intro s lk inp rest hinv hl hp hf
  rw [step_cycle hp]
  exact runCycle_eq (s := { s with program := rest }) hinv hl hf

end Sys2Proof.Proofs
end

section
/-! What an operation leaves as it was (20_memory.md R80, 10_state.md R31): an operation of an engine or a symbol all but registers,
inputs and signals; a configuration operation the parameters, and more or less of the rest, by what it answers. -/

namespace Sys2Proof.Machine

open Sys2Proof

/-! ## Engines and symbols -/

theorem presentSymbol_next {s t : State} {n j : Nat} {x : Sym} (h : presentSymbol n j x s = .next t) :
    ∃ ws, t = s.withRxIn ws := by
  unfold presentSymbol at h
  split at h
  · cases h
  split at h
  · cases h
    exact ⟨_, rfl⟩
  · cases h

/-- An operation of an engine or a symbol changes next register values, inputs and signals, and nothing else. -/
theorem exec_frame {s t : State} {i : Instr} (hi : i.port ≠ .cfgop) (h : exec i s = .next t) :
    t = { s with nxt := t.nxt, inp := t.inp, sig := t.sig } := by
  cases i with
  | symR n j | symA n j | symQ n j | symK n j | symF n j | symData n j d | symReserved n j d =>
    obtain ⟨ws, rfl⟩ := presentSymbol_next h
    rfl
  | txIllegal n => cases h
  | txSendData n | scrReset n _ | scrStep n | scrBypass n | framerReset n | framerStep n | cgsGen n | txDesync n | txSyncLoss n =>
    obtain ⟨lk, l, -, ⟨⟩⟩ := withTx_next h
    rfl
  | txSendCgs n =>
    obtain ⟨lk, l, -, h⟩ := withTx_next h
    obtain ⟨-, ⟨⟩⟩ := withCount_next h
    rfl
  | txSendIlas n | ilasGenReset n | ilasGenStep n =>
    obtain ⟨lk, l, -, h⟩ := withTx_next h
    obtain ⟨w, -, ⟨⟩⟩ := withEntry_next h
    rfl
  | alignInsA n j _ _ | alignInsF n j _ | alignInsPass n j _ =>
    obtain ⟨lk, l, -, h⟩ := withTx_next h
    obtain ⟨-, ⟨⟩⟩ := withSlot_next h
    rfl
  | txAgg =>
    obtain ⟨lk, -, h⟩ := withLink_next h
    obtain ⟨-, ⟨⟩⟩ := withTxStates_next h
    rfl
  | lmfcReset e _ | lmfcLoad e | lmfcCount e =>
    simp only [exec, execLmfcReset, execLmfcLoad, execLmfcCount] at h
    obtain ⟨lk, -, -, ⟨⟩⟩ := withLmfc_next h
    cases e <;> rfl
  | rxAssertSync n | rxReceiveData n | descrReset n _ | descrStep n | descrBypass n | alignReplClear n | deframerPass n
  | alignerReset n _ | alignerLatch n | alignerHold n | cgsCheck n | ilasStart n =>
    obtain ⟨lk, l, -, ⟨⟩⟩ := withRx_next h
    rfl
  | rxReceiveCgs n =>
    obtain ⟨lk, l, -, h⟩ := withRx_next h
    obtain ⟨-, ⟨⟩⟩ := withCount_next h
    rfl
  | rxReceiveIlas n | ilasChkReset n | ilasChkStep n | rxIlasErr n | rxSyncLoss n =>
    obtain ⟨lk, l, -, h⟩ := withRx_next h
    obtain ⟨w, -, ⟨⟩⟩ := withEntry_next h
    rfl
  | rxAgg =>
    obtain ⟨lk, -, h⟩ := withLink_next h
    obtain ⟨-, ⟨⟩⟩ := withCount_next h
    rfl
  | cfgSetField | cfgGetField | cfgRecompute | cfgSerialize | cfgDeserialize | cfgLinkBuild | cfgReserved => exact absurd rfl hi

/-! ## Configuration -/

/-- The operations that write the settings register when they do not raise (R122, R125, R128). -/
def writesSettings (i : Instr) : Prop :=
  (∃ f v, i = .cfgSetField f v) ∨ i = .cfgRecompute ∨ ∃ b, i = .cfgDeserialize b

/-- What a configuration operation can answer: a read or a raise changes the reply only; a write changes the settings and drops the
link (log 9); a build starts the engines of the link it gives (log 8). -/
theorem exec_cfg_cases {s t : State} {i : Instr} (hi : i.port = .cfgop) (h : exec i s = .next t) :
    (∃ r, r ≠ .done ∧ r ≠ .built ∧ t = { s with reply := r })
      ∨ (writesSettings i ∧ ∃ c, t = changeSettings c s)
      ∨ (i = .cfgLinkBuild ∧ ∃ lk, linkBuild s.params s.cfg = .ok lk ∧ t = { instantiate lk s with reply := .built }) := by
  have raises : ∀ e, raiseCfg e s = .next t → ∃ r, r ≠ .done ∧ r ≠ .built ∧ t = { s with reply := r } := by
    rintro e ⟨⟩
    exact ⟨.error e, by simp, by simp, rfl⟩
  cases i with
  | cfgGetField f =>
    cases h
    exact .inl ⟨.value (getField f s.cfg), by simp, by simp, rfl⟩
  | cfgSerialize =>
    cases h
    exact .inl ⟨.octets s.cfg.toList, by simp, by simp, rfl⟩
  | cfgReserved _ => cases h
  | cfgSetField f v =>
    simp only [exec, execCfgSetField] at h
    split at h
    · exact .inl (raises _ h)
    · cases h
      exact .inr (.inl ⟨.inl ⟨f, v, rfl⟩, _, rfl⟩)
  | cfgRecompute =>
    simp only [exec, execCfgRecompute] at h
    split at h
    · exact .inl (raises _ h)
    · cases h
      exact .inr (.inl ⟨.inr (.inl rfl), _, rfl⟩)
  | cfgDeserialize b =>
    simp only [exec, execCfgDeserialize] at h
    split at h
    · exact .inl (raises _ h)
    · cases h
      exact .inr (.inl ⟨.inr (.inr ⟨b, rfl⟩), _, rfl⟩)
  | cfgLinkBuild =>
    simp only [exec, execCfgLinkBuild] at h
    split at h
    · exact .inl (raises _ h)
    · rename_i lk hb
      cases h
      exact .inr (.inr ⟨rfl, lk, hb, rfl⟩)
  | _ => cases hi

/-- No operation changes the parameters (R31). -/
theorem exec_params {s t : State} {i : Instr} (h : exec i s = .next t) : t.params = s.params := by
  by_cases hi : i.port = .cfgop
  · obtain ⟨r, -, -, rfl⟩ | ⟨-, c, rfl⟩ | ⟨-, lk, -, rfl⟩ := exec_cfg_cases hi h <;> rfl
  · rw [exec_frame hi h]

/-! ## Cycles and steps -/

theorem sel0_port {sel : Nat} {i0 i : Instr} (h : sel0 sel i0 = .ok i) : i.port = i0.port := by
  unfold sel0 at h
  split at h <;> cases h
  rfl

theorem sel1_port {sel : Nat} {one zero i : Instr} {p : Port} (h1 : one.port = p) (h0 : zero.port = p)
    (h : sel1 sel one zero = .ok i) : i.port = p := by
  unfold sel1 at h
  repeat' (split at h)
  all_goals cases h
  exacts [h0, h1]

theorem sel2_port {sel : Nat} {s0 s1 s2 s3 i : Instr} {p : Port} (h0 : s0.port = p) (h1 : s1.port = p) (h2 : s2.port = p)
    (h3 : s3.port = p) (h : sel2 sel s0 s1 s2 s3 = .ok i) : i.port = p := by
  unfold sel2 at h
  repeat' (split at h)
  all_goals cases h
  exacts [h0, h1, h2, h3]

theorem decodeSym_port (c : Bool) (d : Octet) (n j : Nat) : (decodeSym c d n j).port = .sym := by
  unfold decodeSym
  repeat' split
  all_goals rfl

theorem decodeSlot4_port (sel : BitVec 4) (n j : Nat) : (decodeSlot4 sel n j).port = .alignIns := by
  unfold decodeSlot4
  repeat' split
  all_goals rfl

/-- A select port names its own operations only (R103). -/
theorem decodeSel_port {p : Port} {sel n j : Nat} {i : Instr} (h : decodeSel p sel n j = .ok i) : i.port = p := by
  cases p with
  | txFsm | rxFsm | scr | descr | aligner => exact sel2_port rfl rfl rfl rfl h
  | framer | ilasGen | ilasChk => exact sel1_port rfl rfl h
  | alignRepl | deframer | cgsGen | cgsCheck | ilasStart | txDesync | txSyncLoss | txAgg | rxIlasErr | rxSyncLoss | rxAgg =>
    exact sel0_port h
  | cfgop => cases h
  | sym =>
    simp only [decodeSel] at h
    split at h <;> cases h
    exact decodeSym_port _ _ n j
  | alignIns =>
    simp only [decodeSel] at h
    split at h <;> cases h
    exact decodeSlot4_port _ n j
  | lmfc =>
    simp only [decodeSel] at h
    split at h
    · cases h
    · exact sel2_port rfl rfl rfl rfl h

/-- No select port of a running engine, and no symbol port, names a configuration operation (R103). -/
theorem decodeSel_port_ne_cfgop {p : Port} {sel n j : Nat} {i : Instr} (h : decodeSel p sel n j = .ok i) : i.port ≠ .cfgop := by
  rw [decodeSel_port h]
  rintro rfl
  cases h

/-- The configuration of a state: parameters, settings register and built link. -/
def State.configuration (s : State) : Params × Settings × Option Link := (s.params, s.cfg, s.link)

theorem runSel_configuration {s t : State} {p : Port} {sel n j : Nat} (h : runSel p sel n j s = .next t) :
    t.configuration = s.configuration := by
  unfold runSel at h
  split at h
  · cases h
  · rename_i i hi
    rw [exec_frame (decodeSel_port_ne_cfgop hi) h]
    rfl

theorem runInstance_configuration {s t : State} {i : Instance} (h : runInstance i s = .next t) :
    t.configuration = s.configuration := by
  obtain ⟨lk, -, h⟩ := withLink_next h
  split at h
  case h_1 | h_2 | h_3 => exact runSel_configuration h
  case h_4 | h_5 | h_6 | h_7 | h_8 | h_9 | h_10 | h_11 =>
    obtain ⟨-, l, -, -, h⟩ := withTxLane_next h
    exact runSel_configuration h
  case h_12 =>
    obtain ⟨-, l, -, -, h⟩ := withRxLane_next h
    exact runSel_configuration h

theorem runInstances_configuration {s t : State} {is : List Instance} (h : runInstances is s = .next t) :
    t.configuration = s.configuration := by
  induction is generalizing s with
  | nil => cases h; rfl
  | cons i is ih =>
    obtain ⟨u, hu, ht⟩ := andThen_eq_next.mp h
    exact (ih ht).trans (runInstance_configuration hu)

theorem runSymbols_configuration {s t : State} {xs : List (Nat × Nat × BitVec 9)} (h : runSymbols xs s = .next t) :
    t.configuration = s.configuration := by
  induction xs generalizing s with
  | nil => cases h; rfl
  | cons x xs ih =>
    obtain ⟨u, hu, ht⟩ := andThen_eq_next.mp h
    exact (ih ht).trans (runSel_configuration hu)

/-- A cycle of stimulus, from any state, leaves the configuration (R80). -/
theorem runCycle_configuration {s t : State} {inp : CycleInputs} (h : runCycle inp s = .next t) :
    t.configuration = s.configuration := by
  obtain ⟨lk, -, h⟩ := withLink_next h
  split at h
  · obtain ⟨u, hu, h⟩ := andThen_eq_next.mp h
    obtain ⟨v, hv, ⟨⟩⟩ := andThen_eq_next.mp h
    exact (runInstances_configuration hv).trans (runSymbols_configuration (s := applyInputs inp s) hu)
  · cases h

theorem runRecord_params {s t : State} {p : Port} {b : List Octet} (h : runRecord p b s = .next t) : t.params = s.params := by
  unfold runRecord at h
  split at h
  · cases h
  · obtain ⟨u, hu, ⟨⟩⟩ := andThen_eq_next.mp h
    exact (clockEdge_params u).trans (exec_params hu)

theorem step_cycle_configuration {s t : State} {inp : CycleInputs} {rest : List Item} (hp : s.program = .cycle inp :: rest)
    (h : step s = .next t) : t.configuration = s.configuration := by
  rw [step_cycle hp] at h
  exact runCycle_configuration (s := { s with program := rest }) h

theorem step_params {s t : State} (h : step s = .next t) : t.params = s.params := by
  cases hp : s.program with
  | nil => simp [step, present, hp] at h
  | cons item rest =>
    cases item with
    | op p b =>
      rw [step_op hp] at h
      exact runRecord_params (s := { s with program := rest }) h
    | cycle inp => exact congrArg Prod.fst (step_cycle_configuration hp h)

end Sys2Proof.Machine

namespace Sys2Proof.Proofs

open Sys2Proof Sys2Proof.Machine

/-- Settles O22: an operation of an engine or a symbol leaves all but registers, inputs and signals, so a cycle, which runs only such
operations, keeps the configuration; and a record of a configuration operation keeps the parameters. -/
theorem enginesNeverChangeTheSettings : Obligations.EnginesNeverChangeTheSettings := by
  refine ⟨fun s t i hi h => ?operation, fun s t inp rest hp h => ?cycle, fun s t h => step_params h⟩
  case operation =>
    rw [exec_frame hi h]
    exact ⟨rfl, rfl, rfl⟩
  case cycle =>
    have hkeep := step_cycle_configuration hp h
    simpa only [State.configuration, Prod.mk.injEq] using hkeep

/-- Settles O60, by what a configuration operation can answer: a read or raise, a write, or a build. -/
theorem settingsWritesDropTheBuiltLink : Obligations.SettingsWritesDropTheBuiltLink := by
  intro s t i hi h
  obtain ⟨r, hdone, hbuilt, rfl⟩ | ⟨hwrites, c, rfl⟩ | ⟨-, lk, -, rfl⟩ := exec_cfg_cases hi h
  · exact ⟨fun hne => absurd rfl hne, fun hr => absurd hr hdone, fun _ _ => ⟨rfl, rfl⟩⟩
  · exact ⟨fun _ => rfl, fun _ => ⟨rfl, hwrites⟩, fun hne => absurd rfl hne⟩
  · exact ⟨fun hne => absurd rfl hne, fun hr => (by cases hr), fun _ hne => absurd rfl hne⟩

end Sys2Proof.Proofs
end

section
/-! The select bits of a port (30_encoding.md R103): each of their values names one operation of the port, whose select word, lane and
slot are the ones decoded, and no wider word names any. -/

namespace Sys2Proof.Laws

open Sys2Proof Sys2Proof.Machine

/-! ## Totality -/

/-- The number of select bits of a port (R103). -/
def selBits : Port → Nat
  | .sym => 9
  | .txFsm | .rxFsm | .lmfc | .scr | .descr | .aligner => 2
  | .framer | .ilasGen | .ilasChk => 1
  | .alignIns => 4
  | _ => 0

theorem sel0_total {sel : Nat} (h : sel < 1) (i : Instr) : ∃ k, sel0 sel i = .ok k :=
  ⟨i, if_pos (by omega)⟩

theorem sel1_total {sel : Nat} (h : sel < 2) (one zero : Instr) : ∃ i, sel1 sel one zero = .ok i := by
  obtain rfl | rfl : sel = 0 ∨ sel = 1 := by omega
  exacts [⟨zero, rfl⟩, ⟨one, rfl⟩]

theorem sel2_total {sel : Nat} (h : sel < 4) (s0 s1 s2 s3 : Instr) : ∃ i, sel2 sel s0 s1 s2 s3 = .ok i := by
  obtain rfl | rfl | rfl | rfl : sel = 0 ∨ sel = 1 ∨ sel = 2 ∨ sel = 3 := by omega
  exacts [⟨s0, rfl⟩, ⟨s1, rfl⟩, ⟨s2, rfl⟩, ⟨s3, rfl⟩]

theorem sel0_wide {sel : Nat} (h : 1 ≤ sel) (i : Instr) : sel0 sel i = .error .reservedBits :=
  if_neg (by omega)

theorem sel1_wide {sel : Nat} (h : 2 ≤ sel) (one zero : Instr) : sel1 sel one zero = .error .reservedBits := by
  rw [sel1, if_neg (by omega), if_neg (by omega)]

theorem sel2_wide {sel : Nat} (h : 4 ≤ sel) (s0 s1 s2 s3 : Instr) : sel2 sel s0 s1 s2 s3 = .error .reservedBits := by
  rw [sel2, if_neg (by omega), if_neg (by omega), if_neg (by omega), if_neg (by omega)]

/-- The engine numbers are 0 and 1. -/
theorem engine_ofNum_of_lt {n : Nat} (h : n < 2) : ∃ e, Engine.ofNum n = some e := by
  obtain rfl | rfl : n = 0 ∨ n = 1 := by omega
  exacts [⟨.tx, rfl⟩, ⟨.rx, rfl⟩]

/-- Each value of an engine port's select bits names an operation. -/
theorem decodeSel_total {p : Port} {sel lane : Nat} (slot : Nat) (hp : p ≠ .cfgop) (hlane : p = .lmfc → lane < 2)
    (h : sel < 2 ^ selBits p) : ∃ i, decodeSel p sel lane slot = .ok i := by
  cases p with
  | txFsm | rxFsm | scr | descr | aligner => exact sel2_total h _ _ _ _
  | framer | ilasGen | ilasChk => exact sel1_total h _ _
  | alignRepl | deframer | cgsGen | cgsCheck | ilasStart | txDesync | txSyncLoss | txAgg | rxIlasErr | rxSyncLoss | rxAgg =>
    exact sel0_total h _
  | sym => exact ⟨_, if_pos h⟩
  | alignIns => exact ⟨_, if_pos h⟩
  | lmfc =>
    obtain ⟨e, he⟩ := engine_ofNum_of_lt (hlane rfl)
    simp only [decodeSel, he]
    exact sel2_total h _ _ _ _
  | cfgop => exact absurd rfl hp

/-- A select word with a higher bit set names none. -/
theorem decodeSel_wide {p : Port} {sel lane : Nat} (slot : Nat) (hp : p ≠ .cfgop) (hlane : p = .lmfc → lane < 2)
    (h : 2 ^ selBits p ≤ sel) : decodeSel p sel lane slot = .error .reservedBits := by
  cases p with
  | txFsm | rxFsm | scr | descr | aligner => exact sel2_wide h _ _ _ _
  | framer | ilasGen | ilasChk => exact sel1_wide h _ _
  | alignRepl | deframer | cgsGen | cgsCheck | ilasStart | txDesync | txSyncLoss | txAgg | rxIlasErr | rxSyncLoss | rxAgg =>
    exact sel0_wide h _
  | sym => exact if_neg (Nat.not_lt.mpr h)
  | alignIns => exact if_neg (Nat.not_lt.mpr h)
  | lmfc =>
    obtain ⟨e, he⟩ := engine_ofNum_of_lt (hlane rfl)
    simp only [decodeSel, he]
    exact sel2_wide h _ _ _ _
  | cfgop => exact absurd rfl hp

/-! ## What a select word names -/

/-- The lane of an operation decoded on a port for lane `n`: the aggregates have none. -/
def portLane : Port → Nat → Nat
  | .txAgg, _ | .rxAgg, _ => 0
  | _, n => n

/-- The slot of an operation decoded on a port for slot `j`: only two ports have slots. -/
def portSlot : Port → Nat → Nat
  | .sym, j | .alignIns, j => j
  | _, _ => 0

/-- The select word `sel` of port `p` is that of operation `i`, on lane `lane` and slot `slot`. -/
structure Names (p : Port) (sel lane slot : Nat) (i : Instr) : Prop where
  lt_bits : sel < 2 ^ selBits p
  sel_eq : i.sel = sel
  laneOf_eq : laneOf i = portLane p lane
  slotOf_eq : slotOf i = portSlot p slot
  wf : lane < 32 → slot < 65536 → i.wf = true

theorem sel0_elim {sel : Nat} {i0 i : Instr} {P : Nat → Instr → Prop} (h : sel0 sel i0 = .ok i) (h0 : P 0 i0) : P sel i := by
  unfold sel0 at h
  split at h <;> cases h
  subst sel
  exact h0

theorem sel1_elim {sel : Nat} {one zero i : Instr} {P : Nat → Instr → Prop} (h : sel1 sel one zero = .ok i) (h1 : P 1 one)
    (h0 : P 0 zero) : P sel i := by
  unfold sel1 at h
  repeat' (split at h)
  all_goals cases h
  all_goals subst sel
  exacts [h0, h1]

theorem sel2_elim {sel : Nat} {s0 s1 s2 s3 i : Instr} {P : Nat → Instr → Prop} (h : sel2 sel s0 s1 s2 s3 = .ok i) (h0 : P 0 s0)
    (h1 : P 1 s1) (h2 : P 2 s2) (h3 : P 3 s3) : P sel i := by
  unfold sel2 at h
  repeat' (split at h)
  all_goals cases h
  all_goals subst sel
  exacts [h0, h1, h2, h3]

/-- An operation with a lane, and no other operand that a record could hold wrongly, is well-formed if the lane is. -/
theorem names_of_lane {p : Port} {sel lane slot : Nat} {i : Instr} (hbits : sel < 2 ^ selBits p) (hsel : i.sel = sel)
    (hlane : laneOf i = portLane p lane) (hslot : slotOf i = portSlot p slot) (hwf : i.wf = laneOk lane) :
    Names p sel lane slot i :=
  ⟨hbits, hsel, hlane, hslot, fun hl _ => hwf.trans (decide_eq_true hl)⟩

/-! ### SYM9 (R90 to R94) -/

theorem charR_eq : charR = 0x1C := rfl
theorem charA_eq : charA = 0x7C := rfl
theorem charQ_eq : charQ = 0x9C := rfl
theorem charK_eq : charK = 0xBC := rfl
theorem charF_eq : charF = 0xFC := rfl

/-- The octets of no named control character (R92). -/
theorem namedControl_eq_false {d : Octet} :
    namedControl d = false ↔ d ≠ charR ∧ d ≠ charA ∧ d ≠ charQ ∧ d ≠ charK ∧ d ≠ charF := by
  simp [namedControl, charR_eq, charA_eq, charQ_eq, charK_eq, charF_eq, and_assoc]

theorem decodeSym_sel (c : Bool) (d : Octet) (n j : Nat) : (decodeSym c d n j).sel = symCode ⟨c, d⟩ := by
  cases c with
  | false => rfl
  | true =>
    simp only [decodeSym, Bool.true_eq_false, if_false]
    split_ifs <;> subst_vars
    case neg => exact Nat.add_comm 256 d.toNat
    all_goals rfl

theorem decodeSym_laneOf (c : Bool) (d : Octet) (n j : Nat) : laneOf (decodeSym c d n j) = n := by
  unfold decodeSym
  split_ifs <;> rfl

theorem decodeSym_slotOf (c : Bool) (d : Octet) (n j : Nat) : slotOf (decodeSym c d n j) = j := by
  unfold decodeSym
  split_ifs <;> rfl

/-- The reserved symbol is named for no named character only. -/
theorem decodeSym_wf (c : Bool) (d : Octet) {n j : Nat} (hn : n < 32) (hj : j < 65536) : (decodeSym c d n j).wf = true := by
  have hoperands : (laneOk n && slotOk j) = true := by simp [laneOk, slotOk, hn, hj]
  unfold decodeSym
  split_ifs with _ hR hA hQ hK hF
  case neg =>
    have hd : namedControl d = false := namedControl_eq_false.mpr ⟨hR, hA, hQ, hK, hF⟩
    simp [Instr.wf, hoperands, hd]
  all_goals exact hoperands

/-- The flag and the octet of a 9-bit select word (R90). -/
theorem symCode_split {sel : Nat} (h : sel < 512) : symCode ⟨decide (256 ≤ sel), BitVec.ofNat 8 sel⟩ = sel := by
  simp only [symCode, BitVec.toNat_ofNat, decide_eq_true_eq]
  split <;> omega

/-! ### SEL_SLOT4 (R103, R196) -/

theorem slot4_insA_bits : ∀ v : BitVec 4, v &&& 10 = 10 → 10 + 4 * bit (v.getLsbD 2) + bit (v.getLsbD 0) = v.toNat := by decide

theorem slot4_insF_bits : ∀ v : BitVec 4, v &&& 13 = 5 → 5 + 2 * bit (v.getLsbD 1) = v.toNat := by decide

/-- The three rows of SEL_SLOT4: `decodeSlot4` keeps every bit of the select word, on the lane and slot given. -/
theorem decodeSlot4_names {sel : Nat} (h : sel < 16) (n j : Nat) :
    Names .alignIns sel n j (decodeSlot4 (BitVec.ofNat 4 sel) n j) := by
  have hv : (BitVec.ofNat 4 sel).toNat = sel := by simpa using h
  have hoperands : n < 32 → j < 65536 → (laneOk n && slotOk j) = true := fun hn hj => by simp [laneOk, slotOk, hn, hj]
  unfold decodeSlot4
  split_ifs with hA hF
  · exact ⟨h, (slot4_insA_bits _ hA).trans hv, rfl, rfl, hoperands⟩
  · exact ⟨h, (slot4_insF_bits _ hF).trans hv, rfl, rfl, hoperands⟩
  · refine ⟨h, hv, rfl, rfl, fun hn hj => ?_⟩
    have hpass : selInserts (BitVec.ofNat 4 sel) = false :=
      Bool.or_eq_false_iff.mpr ⟨beq_eq_false_iff_ne.mpr hA, beq_eq_false_iff_ne.mpr hF⟩
    simp [Instr.wf, hoperands hn hj, hpass]

/-! ### All ports -/

theorem engine_num_of_ofNum {n : Nat} {e : Engine} (h : Engine.ofNum n = some e) : e.num = n := by
  unfold Engine.ofNum at h
  split_ifs at h <;> cases h <;> subst n <;> rfl

/-- A decoded select word is that of the operation it names. -/
theorem decodeSel_names {p : Port} {sel lane slot : Nat} {i : Instr} (h : decodeSel p sel lane slot = .ok i) :
    Names p sel lane slot i := by
  cases p with
  | txFsm | rxFsm | scr | descr | aligner =>
    apply sel2_elim (P := fun sel i => Names _ sel lane slot i) h
    all_goals exact names_of_lane (by decide) rfl rfl rfl rfl
  | framer | ilasGen | ilasChk =>
    apply sel1_elim (P := fun sel i => Names _ sel lane slot i) h
    all_goals exact names_of_lane (by decide) rfl rfl rfl rfl
  | alignRepl | deframer | cgsGen | cgsCheck | ilasStart | txDesync | txSyncLoss | rxIlasErr | rxSyncLoss =>
    exact sel0_elim (P := fun sel i => Names _ sel lane slot i) h (names_of_lane (by decide) rfl rfl rfl rfl)
  | txAgg | rxAgg =>
    exact sel0_elim (P := fun sel i => Names _ sel lane slot i) h ⟨by decide, rfl, rfl, rfl, fun _ _ => rfl⟩
  | sym =>
    simp only [decodeSel] at h
    split at h
    case isTrue hlt =>
      cases h
      exact ⟨hlt, (decodeSym_sel _ _ _ _).trans (symCode_split hlt), decodeSym_laneOf _ _ _ _, decodeSym_slotOf _ _ _ _,
        decodeSym_wf _ _⟩
    case isFalse => cases h
  | alignIns =>
    simp only [decodeSel] at h
    split at h
    case isTrue hlt =>
      cases h
      exact decodeSlot4_names hlt lane slot
    case isFalse => cases h
  | lmfc =>
    simp only [decodeSel] at h
    split at h
    case h_1 => cases h
    case h_2 e he =>
      apply sel2_elim (P := fun sel i => Names _ sel lane slot i) h
      all_goals exact ⟨by decide, rfl, engine_num_of_ofNum he, rfl, fun _ _ => rfl⟩
  | cfgop => cases h

/-- The select word of a well-formed operation of an engine or a symbol names it (the family `SelWord`). -/
theorem decodeSel_sel {i : Instr} (hw : i.wf = true) (hp : i.port ≠ .cfgop) :
    decodeSel i.port i.sel (laneOf i) (slotOf i) = .ok i := by
  have hword : SelWord.Statement i := by
    cases i with
    | symR n j => exact SelWord.symR n j
    | symA n j => exact SelWord.symA n j
    | symQ n j => exact SelWord.symQ n j
    | symK n j => exact SelWord.symK n j
    | symF n j => exact SelWord.symF n j
    | symData n j d => exact SelWord.symData n j d
    | symReserved n j d => exact SelWord.symReserved n j d
    | txSendCgs n => exact SelWord.txSendCgs n
    | txSendIlas n => exact SelWord.txSendIlas n
    | txSendData n => exact SelWord.txSendData n
    | txIllegal n => exact SelWord.txIllegal n
    | rxReceiveCgs n => exact SelWord.rxReceiveCgs n
    | rxAssertSync n => exact SelWord.rxAssertSync n
    | rxReceiveIlas n => exact SelWord.rxReceiveIlas n
    | rxReceiveData n => exact SelWord.rxReceiveData n
    | lmfcReset e r => exact SelWord.lmfcReset e r
    | lmfcLoad e => exact SelWord.lmfcLoad e
    | lmfcCount e => exact SelWord.lmfcCount e
    | scrReset n b => exact SelWord.scrReset n b
    | scrStep n => exact SelWord.scrStep n
    | scrBypass n => exact SelWord.scrBypass n
    | descrReset n b => exact SelWord.descrReset n b
    | descrStep n => exact SelWord.descrStep n
    | descrBypass n => exact SelWord.descrBypass n
    | framerReset n => exact SelWord.framerReset n
    | framerStep n => exact SelWord.framerStep n
    | alignInsA n j a b => exact SelWord.alignInsA n j a b
    | alignInsF n j a => exact SelWord.alignInsF n j a
    | alignInsPass n j v => exact SelWord.alignInsPass n j v
    | alignReplClear n => exact SelWord.alignReplClear n
    | deframerPass n => exact SelWord.deframerPass n
    | alignerReset n r => exact SelWord.alignerReset n r
    | alignerLatch n => exact SelWord.alignerLatch n
    | alignerHold n => exact SelWord.alignerHold n
    | cgsGen n => exact SelWord.cgsGen n
    | cgsCheck n => exact SelWord.cgsCheck n
    | ilasGenReset n => exact SelWord.ilasGenReset n
    | ilasGenStep n => exact SelWord.ilasGenStep n
    | ilasChkReset n => exact SelWord.ilasChkReset n
    | ilasChkStep n => exact SelWord.ilasChkStep n
    | ilasStart n => exact SelWord.ilasStart n
    | txDesync n => exact SelWord.txDesync n
    | txSyncLoss n => exact SelWord.txSyncLoss n
    | txAgg => exact SelWord.txAgg
    | rxIlasErr n => exact SelWord.rxIlasErr n
    | rxSyncLoss n => exact SelWord.rxSyncLoss n
    | rxAgg => exact SelWord.rxAgg
    | cfgSetField | cfgGetField | cfgRecompute | cfgSerialize | cfgDeserialize | cfgLinkBuild | cfgReserved => exact absurd rfl hp
  exact (hword hw).resolve_left fun hcfg => hp hcfg.1

end Sys2Proof.Laws

namespace Sys2Proof.Proofs

open Sys2Proof Sys2Proof.Machine Sys2Proof.Laws

/-- Settles O2: the row a 9-bit word names is `decodeSym` of its flag and octet, whose tests are those of R92. -/
theorem flagDecidesTheSymbol : Obligations.FlagDecidesTheSymbol := by
  intro d n j
  have hd : d.toNat < 256 := d.isLt
  constructor
  · simp [decodeSel, decodeSym, show d.toNat < 512 by omega, show ¬ 256 ≤ d.toNat by omega]
  · have hoctet : BitVec.ofNat 8 (256 + d.toNat) = d := BitVec.eq_of_toNat_eq (by rw [BitVec.toNat_ofNat]; omega)
    simp only [decodeSel, if_pos (show 256 + d.toNat < 512 by omega), Nat.le_add_right, decide_true, hoctet, decodeSym,
      Bool.true_eq_false, if_false, charR_eq, charA_eq, charQ_eq, charK_eq, charF_eq]

/-- Settles O5, port by port (`decodeSel_total`, `decodeSel_wide`). -/
theorem selectBitsAreTotal : Obligations.SelectBitsAreTotal := by
  intro p sel lane slot hp hlane
  refine ⟨fun h => ?total, fun h => ?wide⟩
  case total =>
    have hbits : sel < 2 ^ selBits p := by cases p <;> exact h
    obtain ⟨i, hi⟩ := decodeSel_total slot hp hlane hbits
    exact ⟨i, hi, decodeSel_port hi⟩
  case wide =>
    have hbits : 2 ^ selBits p ≤ sel := by cases p <;> exact h
    exact decodeSel_wide slot hp hlane hbits

end Sys2Proof.Proofs
end

section
/-! Records (log 2): the select word, the operands and zero padding, cut as the decoder cuts them and put together as the encoder does. -/

namespace Sys2Proof.Laws

open Sys2Proof Sys2Proof.Machine

/-! ## Little-endian octets -/

theorem leNat_lt (b : List Octet) : leNat b < 256 ^ b.length := by
  induction b with
  | nil => simp [leNat]
  | cons x t ih =>
    have hx : x.toNat < 256 := x.isLt
    rw [leNat, List.length_cons, pow_succ]
    omega

/-- A number below `256 ^ k` is read back from its `k` octets. -/
theorem leNat_leOctets {k v : Nat} (h : v < 256 ^ k) : leNat (leOctets k v) = v := by
  induction k generalizing v with
  | zero => simpa [leNat, leOctets, eq_comm] using h
  | succ k ih =>
    rw [pow_succ] at h
    rw [leOctets, leNat, ih (by omega), BitVec.toNat_ofNat]
    omega

/-- Octets are written back from the number they stand for. -/
theorem leOctets_leNat (b : List Octet) : leOctets b.length (leNat b) = b := by
  induction b with
  | nil => rfl
  | cons x t ih =>
    have hx : x.toNat < 256 := x.isLt
    have hhead : BitVec.ofNat 8 (x.toNat + 256 * leNat t) = x :=
      BitVec.eq_of_toNat_eq (by rw [BitVec.toNat_ofNat]; omega)
    rw [List.length_cons, leNat, leOctets, hhead, show (x.toNat + 256 * leNat t) / 256 = leNat t by omega, ih]

theorem octet_toNat {n : Nat} (h : n < 256) : (BitVec.ofNat 8 n).toNat = n := by
  simpa using h

/-! ## Padding -/

/-- A record's rest is accepted exactly when it is zero bytes. -/
theorem padded_eq_ok {rest : List Octet} {i j : Instr} : padded rest i = .ok j ↔ i = j ∧ ∃ k, rest = List.replicate k 0 := by
  have hzeros : rest.all (· == 0) = true ↔ ∃ k, rest = List.replicate k 0 := by
    rw [List.all_eq_true]
    constructor
    · intro h
      exact ⟨rest.length, List.eq_replicate_of_mem fun x hx => eq_of_beq (h x hx)⟩
    · rintro ⟨k, rfl⟩ x hx
      exact beq_iff_eq.mpr (List.eq_of_mem_replicate hx)
  rw [← hzeros, padded]
  split <;> simp_all

theorem padded_nil (i : Instr) : padded [] i = .ok i := rfl

theorem decodeAt_eq_ok {p : Port} {sel lane slot : Nat} {rest : List Octet} {i : Instr} :
    decodeAt p sel lane slot rest = .ok i ↔
      lane < 32 ∧ decodeSel p sel lane slot = .ok i ∧ ∃ k, rest = List.replicate k 0 := by
  unfold decodeAt
  split
  case isFalse h => simp [h]
  case isTrue h =>
    cases decodeSel p sel lane slot with
    | error e => simp
    | ok i' => simp [h, padded_eq_ok]

/-! ## Engine and symbol records -/

/-- The operand bytes of a record on a port: a lane, and a slot where the port has slots (log 2). -/
def operandBytes : Port → Nat → Nat → List Octet
  | .sym, n, j | .alignIns, n, j => BitVec.ofNat 8 n :: leOctets 2 j
  | .txAgg, _, _ | .rxAgg, _, _ | .cfgop, _, _ => []
  | _, n, _ => [BitVec.ofNat 8 n]

theorem operandBytes_port (p : Port) (n j : Nat) : operandBytes p (portLane p n) (portSlot p j) = operandBytes p n j := by
  cases p <;> rfl

/-- The operand bytes of an engine's or a symbol's operation are its lane and slot. -/
theorem args_eq_operandBytes {i : Instr} (hp : i.port ≠ .cfgop) : i.args = operandBytes i.port (laneOf i) (slotOf i) := by
  cases i with
  | cfgSetField | cfgGetField | cfgRecompute | cfgSerialize | cfgDeserialize | cfgLinkBuild | cfgReserved => exact absurd rfl hp
  | _ => rfl

theorem encode_eq_operandBytes {i : Instr} (hp : i.port ≠ .cfgop) :
    encode i = selBytes i.port i.sel ++ operandBytes i.port (laneOf i) (slotOf i) := by
  rw [encode, args_eq_operandBytes hp]

/-- A well-formed operation's lane and slot fit their operand bytes. -/
theorem operands_lt {i : Instr} (hw : i.wf = true) : laneOf i < 32 ∧ slotOf i < 65536 := by
  cases i with
  | symR n j | symA n j | symQ n j | symK n j | symF n j | symData n j d | alignInsA n j a b | alignInsF n j a =>
    simpa [Instr.wf, laneOk, slotOk, laneOf, slotOf] using hw
  | symReserved n j d | alignInsPass n j v =>
    have hoperands := (Bool.and_eq_true_iff.mp hw).1
    simpa [laneOk, slotOk, laneOf, slotOf] using hoperands
  | lmfcReset e _ | lmfcLoad e | lmfcCount e => cases e <;> simp [laneOf, slotOf, Engine.num]
  | txAgg | rxAgg | cfgSetField | cfgGetField | cfgRecompute | cfgSerialize | cfgDeserialize | cfgLinkBuild | cfgReserved =>
    exact ⟨Nat.succ_pos _, Nat.succ_pos _⟩
  | _ => exact ⟨of_decide_eq_true hw, Nat.succ_pos _⟩

/-- A record put together from a select word, a lane, a slot and a rest is cut there. -/
theorem decode_record {p : Port} {sel lane slot : Nat} (hp : p ≠ .cfgop) (hsel : sel < 2 ^ selBits p) (hlane : lane < 32)
    (hslot : slot < 65536) (rest : List Octet) :
    decode p (selBytes p sel ++ operandBytes p lane slot ++ rest) = decodeAt p sel (portLane p lane) (portSlot p slot) rest := by
  have hlane' : (BitVec.ofNat 8 lane).toNat = lane := octet_toNat (by omega)
  have hslot' : leNat (leOctets 2 slot) = slot := leNat_leOctets hslot
  cases p with
  | cfgop => exact absurd rfl hp
  | sym =>
    have hsel' : leNat (leOctets 2 sel) = sel := leNat_leOctets (Nat.lt_trans hsel (by decide))
    change decodeAt .sym (leNat (leOctets 2 sel)) (BitVec.ofNat 8 lane).toNat (leNat (leOctets 2 slot)) rest = _
    rw [hsel', hlane', hslot']
    rfl
  | alignIns =>
    change decodeAt .alignIns (BitVec.ofNat 8 sel).toNat (BitVec.ofNat 8 lane).toNat (leNat (leOctets 2 slot)) rest = _
    rw [octet_toNat (Nat.lt_trans hsel (by decide)), hlane', hslot']
    rfl
  | txAgg | rxAgg =>
    change decodeAt _ (BitVec.ofNat 8 sel).toNat 0 0 rest = _
    rw [octet_toNat (Nat.lt_trans hsel (by decide))]
    rfl
  | _ =>
    change decodeAt _ (BitVec.ofNat 8 sel).toNat (BitVec.ofNat 8 lane).toNat 0 rest = _
    rw [octet_toNat (Nat.lt_trans hsel (by decide)), hlane']
    rfl

/-- A record that decodes is put together from the select word, the lane, the slot and the rest that the decoder cuts out. -/
theorem record_of_decode {p : Port} {b : List Octet} {i : Instr} (hp : p ≠ .cfgop) (h : decode p b = .ok i) :
    ∃ sel lane slot rest, slot < 65536 ∧ b = selBytes p sel ++ operandBytes p lane slot ++ rest
      ∧ decodeAt p sel lane slot rest = .ok i := by
  have hone (s0 : Octet) : leOctets 1 s0.toNat = [s0] := by simp [leOctets]
  have htwo (s0 s1 : Octet) : leOctets 2 (leNat [s0, s1]) = [s0, s1] := leOctets_leNat [s0, s1]
  have hlane (n : Octet) : BitVec.ofNat 8 n.toNat = n := by simp
  have hslot (j0 j1 : Octet) : leNat [j0, j1] < 65536 := by simpa using leNat_lt [j0, j1]
  cases p with
  | cfgop => exact absurd rfl hp
  | sym =>
    simp only [decode] at h
    split at h
    case h_1 s0 s1 n j0 j1 rest =>
      exact ⟨_, _, _, rest, hslot j0 j1, by simp [selBytes, operandBytes, htwo, hlane], h⟩
    case h_2 => cases h
  | alignIns =>
    simp only [decode] at h
    split at h
    case h_1 s0 n j0 j1 rest =>
      exact ⟨_, _, _, rest, hslot j0 j1, by simp [selBytes, operandBytes, hone, htwo, hlane], h⟩
    case h_2 => cases h
  | txAgg | rxAgg =>
    simp only [decode] at h
    split at h
    case h_1 s0 rest => exact ⟨_, _, _, rest, by decide, by simp [selBytes, operandBytes, hone], h⟩
    case h_2 => cases h
  | _ =>
    simp only [decode] at h
    split at h
    case h_1 s0 n rest => exact ⟨_, _, _, rest, by decide, by simp [selBytes, operandBytes, hone, hlane], h⟩
    case h_2 => cases h

/-- An engine's or a symbol's record decodes to the operation it encodes. -/
theorem decode_encode_of_select {i : Instr} (hw : i.wf = true) (hp : i.port ≠ .cfgop) : decode i.port (encode i) = .ok i := by
  have hdec := decodeSel_sel hw hp
  have hnames := decodeSel_names hdec
  obtain ⟨hlane, hslot⟩ := operands_lt hw
  have hcut := decode_record hp hnames.lt_bits hlane hslot []
  rw [List.append_nil, ← encode_eq_operandBytes hp, ← hnames.laneOf_eq, ← hnames.slotOf_eq] at hcut
  rw [hcut]
  exact decodeAt_eq_ok.mpr ⟨hlane, hdec, 0, rfl⟩

/-- A record that decodes on an engine's or the symbol port is the encoding of its operation, padded. -/
theorem encode_of_decode_select {p : Port} {b : List Octet} {i : Instr} (hp : p ≠ .cfgop) (h : decode p b = .ok i) :
    i.wf = true ∧ i.port = p ∧ ∃ k, b = encode i ++ List.replicate k 0 := by
  obtain ⟨sel, lane, slot, rest, hslot, rfl, hat⟩ := record_of_decode hp h
  obtain ⟨hlane, hdec, k, rfl⟩ := decodeAt_eq_ok.mp hat
  have hnames := decodeSel_names hdec
  have hport := decodeSel_port hdec
  subst hport
  refine ⟨hnames.wf hlane hslot, rfl, k, ?_⟩
  rw [encode_eq_operandBytes hp, hnames.sel_eq, hnames.laneOf_eq, hnames.slotOf_eq, operandBytes_port]

/-! ## Configuration records (R103, R106) -/

theorem field_ofId_id (f : Field) : Field.ofId f.id = some f := by cases f <;> rfl

theorem field_id_lt (f : Field) : f.id < 256 := by cases f <;> decide

theorem field_id_of_ofId {n : Nat} {f : Field} (h : Field.ofId n = some f) : f.id = n := by
  have hn : n < 22 := (List.getElem?_eq_some_iff.mp h).1
  interval_cases n <;> cases h <;> rfl

/-- The octet of a field's id. -/
theorem octet_of_ofId {x : Octet} {f : Field} (h : Field.ofId x.toNat = some f) : BitVec.ofNat 8 f.id = x := by
  rw [field_id_of_ofId h]
  simp

/-- The elements of an array are read back from their octets. -/
theorem takeElems_elemOctets {xs : List Nat} (h : ∀ x ∈ xs, x < 65536) : takeElems xs.length (elemOctets xs) = some (xs, []) := by
  induction xs with
  | nil => rfl
  | cons x t ih =>
    obtain ⟨hx, ht⟩ := List.forall_mem_cons.mp h
    have hread : leNat [BitVec.ofNat 8 x, BitVec.ofNat 8 (x / 256)] = x := leNat_leOctets (k := 2) hx
    simp only [elemOctets, leOctets, List.cons_append, List.nil_append, List.length_cons, takeElems, ih ht, hread]

/-- The octets that elements were read from are theirs, and then the rest. -/
theorem elemOctets_of_takeElems {k : Nat} {b r : List Octet} {xs : List Nat} (h : takeElems k b = some (xs, r)) :
    xs.length = k ∧ (∀ x ∈ xs, x < 65536) ∧ b = elemOctets xs ++ r := by
  induction k, b using takeElems.induct generalizing xs r with
  | case1 b =>
    cases h
    exact ⟨rfl, by simp, rfl⟩
  | case2 k x y t ys r' htake ih =>
    simp only [takeElems, htake] at h
    cases h
    obtain ⟨hlen, hall, ht⟩ := ih htake
    have hhead : leOctets 2 (leNat [x, y]) = [x, y] := leOctets_leNat [x, y]
    refine ⟨by rw [List.length_cons, hlen], List.forall_mem_cons.mpr ⟨by simpa using leNat_lt [x, y], hall⟩, ?_⟩
    rw [elemOctets, hhead, ht]
    rfl
  | case3 k x y t htake => simp [takeElems, htake] at h
  | case4 k b hshort => simp [takeElems] at h

/-- A configuration record decodes to the operation it encodes. -/
theorem decode_encode_of_cfgop {i : Instr} (hw : i.wf = true) (hp : i.port = .cfgop) : decode i.port (encode i) = .ok i := by
  rw [hp]
  cases i with
  | cfgRecompute | cfgSerialize | cfgLinkBuild => rfl
  | cfgReserved low => cases low <;> rfl
  | cfgSetField f v =>
    have hv : leNat (leOctets 4 v) = v := leNat_leOctets (of_decide_eq_true hw)
    change decodeCfg 0 (BitVec.ofNat 8 f.id :: leOctets 4 v) = _
    simp only [leOctets] at hv ⊢
    simp [decodeCfg, Nat.mod_eq_of_lt (field_id_lt f), field_ofId_id, hv, padded_nil]
  | cfgGetField f =>
    change decodeCfg 1 [BitVec.ofNat 8 f.id] = _
    simp [decodeCfg, Nat.mod_eq_of_lt (field_id_lt f), field_ofId_id, padded_nil]
  | cfgDeserialize b =>
    obtain ⟨hlen, hall⟩ : b.length < 256 ∧ ∀ x ∈ b, x < 65536 := by simpa [Instr.wf] using hw
    change decodeCfg 4 (BitVec.ofNat 8 b.length :: elemOctets b) = _
    simp [decodeCfg, Nat.mod_eq_of_lt hlen, takeElems_elemOctets hall, padded_nil]
  | _ => cases hp

/-- A configuration operation without operands, decoded from its number and zero bytes. -/
theorem encode_of_padded {op : Octet} {args : List Octet} {i j : Instr} (hwf : i.wf = true) (hport : i.port = .cfgop)
    (hop : BitVec.ofNat 8 i.sel = op) (hargs : i.args = []) (h : padded args i = .ok j) :
    j.wf = true ∧ j.port = .cfgop ∧ ∃ k, op :: args = encode j ++ List.replicate k 0 := by
  obtain ⟨rfl, k, rfl⟩ := padded_eq_ok.mp h
  refine ⟨hwf, hport, k, ?_⟩
  rw [encode, hport, hargs, ← hop]
  rfl

/-- A configuration record that decodes is the encoding of its operation, padded. -/
theorem encode_of_decodeCfg {op : Octet} {args : List Octet} {i : Instr} (h : decodeCfg op args = .ok i) :
    i.wf = true ∧ i.port = .cfgop ∧ ∃ k, op :: args = encode i ++ List.replicate k 0 := by
  unfold decodeCfg at h
  split_ifs at h with h0 h1 h2 h3 h4 h5 h6 h7 <;> subst op
  · split at h
    case h_2 => cases h
    case h_1 x v0 v1 v2 v3 rest =>
      split at h
      case h_2 => cases h
      case h_1 f hf =>
        obtain ⟨rfl, k, rfl⟩ := padded_eq_ok.mp h
        have hvalue : leOctets 4 (leNat [v0, v1, v2, v3]) = [v0, v1, v2, v3] := leOctets_leNat [v0, v1, v2, v3]
        have hlt : leNat [v0, v1, v2, v3] < 4294967296 := by simpa using leNat_lt [v0, v1, v2, v3]
        refine ⟨decide_eq_true hlt, rfl, k, ?_⟩
        simp only [encode, Instr.args, octet_of_ofId hf, hvalue]
        rfl
  · split at h
    case h_2 => cases h
    case h_1 x rest =>
      split at h
      case h_2 => cases h
      case h_1 f hf =>
        obtain ⟨rfl, k, rfl⟩ := padded_eq_ok.mp h
        refine ⟨rfl, rfl, k, ?_⟩
        simp only [encode, Instr.args, octet_of_ofId hf]
        rfl
  · exact encode_of_padded rfl rfl rfl rfl h
  · exact encode_of_padded rfl rfl rfl rfl h
  · split at h
    case h_2 => cases h
    case h_1 x rest =>
      split at h
      case h_2 => cases h
      case h_1 xs r htake =>
        obtain ⟨rfl, k, rfl⟩ := padded_eq_ok.mp h
        obtain ⟨hlen, hall, rfl⟩ := elemOctets_of_takeElems htake
        refine ⟨by simpa [Instr.wf, hlen, x.isLt] using hall, rfl, k, ?_⟩
        simp only [encode, Instr.args, hlen, BitVec.ofNat_toNat, BitVec.setWidth_eq, List.append_assoc]
        rfl
  · exact encode_of_padded rfl rfl rfl rfl h
  · exact encode_of_padded rfl rfl rfl rfl h
  · exact encode_of_padded rfl rfl rfl rfl h

end Sys2Proof.Laws

namespace Sys2Proof.Proofs

open Sys2Proof Sys2Proof.Machine Sys2Proof.Laws

/-- Settles O6: the decoder cuts a record where the encoder put it together, and the select word names the operation (`decodeSel_sel`);
a configuration record is read number by number. -/
theorem decodeOfEncode : Obligations.DecodeOfEncode := by
  intro i hw
  by_cases hp : i.port = .cfgop
  · exact decode_encode_of_cfgop hw hp
  · exact decode_encode_of_select hw hp

/-- Settles O7: the parts the decoder cuts out are those of the operation it names (`decodeSel_names`), and the rest is zero bytes. -/
theorem decodedRecordsAreEncodings : Obligations.DecodedRecordsAreEncodings := by
  intro p b i h
  by_cases hp : p = .cfgop
  · subst hp
    simp only [decode] at h
    split at h
    · exact encode_of_decodeCfg h
    · cases h
  · exact encode_of_decode_select hp h

end Sys2Proof.Proofs
end

section
/-! Which control symbols `tx_out` carries (30_encoding.md R94): the words a TX lane sends hold the five named ones only. -/

namespace Sys2Proof.Machine

open Sys2Proof Sys2Proof.Laws

/-! ## A completed cycle -/

/-- A cycle of stimulus that completes was a fitting one, so it is the pure cycle (20_memory.md R77, R81). -/
theorem cycle_of_step {s t : State} {lk : Link} {inp : CycleInputs} {rest : List Item} (hinv : Inv s) (hl : s.link = some lk)
    (hp : s.program = .cycle inp :: rest) (h : step s = .next t) :
    t = { s with cur := regsAfter lk (seen inp s), nxt := regsAfter lk (seen inp s), inp := portsOf inp,
                 sig := sigIn lk (seen inp s), program := rest } := by
  have hfits : fits lk.opc lk.lanes inp = true := by
    have hrun := h
    rw [step_cycle hp, runCycle, withLink_some (s := { s with program := rest }) hl] at hrun
    split at hrun
    · assumption
    · cases hrun
  rw [Proofs.cycleIsTheSimultaneousUpdate s lk inp rest hinv hl hp hfits] at h
  cases h
  rfl

/-! ## The words sent (R220, R222, R196) -/

/-- Each control symbol of the word is one of the five named ones (R92). -/
def NamedControls (w : LinkWord) : Prop := ∀ y ∈ w, y.ctrl = true → namedControl y.octet = true

theorem namedControls_cgsWord (opc : Nat) : NamedControls (cgsWord opc) := by
  intro y hy _
  rw [List.eq_of_mem_replicate hy]
  rfl

/-- The AlignInserter flags `/A/` and `/F/` octets only. -/
theorem namedControls_insertedWord (lk : Link) (l : TxLane) : NamedControls (insertedWord lk l) := by
  intro y hy hctrl
  obtain ⟨x, -, rfl⟩ := List.mem_map.mp hy
  have hoctet : x.1 = charA ∨ x.1 = charF := by
    simp only [insertFlag, Bool.or_eq_true, Bool.and_eq_true, beq_iff_eq] at hctrl
    exact hctrl.imp And.right And.right
  rcases hoctet with hd | hd <;> simp only [hd] <;> rfl

/-- The control symbols of the ILAS sequence are `/R/`, `/A/` and `/Q/` (R222). -/
theorem ilasOctet_namedControl {counter : Bool} {opm : Nat} {c : Settings} {q : Nat} {y : Sym}
    (h : ilasOctet counter opm c q = y) (hctrl : y.ctrl = true) : namedControl y.octet = true := by
  simp only [ilasOctet] at h
  split_ifs at h <;> subst y
  · rfl
  · rfl
  · rfl
  all_goals cases hctrl

theorem namedControls_ilasTable {counter : Bool} {opm opc len : Nat} {c : Settings} {w : LinkWord}
    (hw : w ∈ ilasTable counter opm opc len c) : NamedControls w := by
  obtain ⟨e, -, rfl⟩ := List.mem_map.mp hw
  intro y hy
  obtain ⟨j, -, hy⟩ := List.mem_map.mp hy
  exact ilasOctet_namedControl hy

/-- The entry read stands in one of the tables. -/
theorem mem_table_of_memReadIlas {lk : Link} {n i : Nat} {w : LinkWord} (h : memReadIlas lk n i = some w) : ∃ t ∈ lk.table, w ∈ t := by
  simp only [memReadIlas] at h
  split at h
  case isFalse => cases h
  case isTrue =>
    split at h
    case h_1 => cases h
    case h_2 t ht => exact ⟨t, List.mem_of_getElem? ht, List.mem_of_getElem? h⟩

theorem namedControls_entry {p : Params} {c : Settings} {lk : Link} (h : linkBuild p c = .ok lk) {n i : Nat} {w : LinkWord}
    (hw : memReadIlas lk n i = some w) : NamedControls w := by
  obtain ⟨-, htable⟩ := linkBuild_lanes h
  obtain ⟨t, ht, hwt⟩ := mem_table_of_memReadIlas hw
  rw [htable] at ht
  obtain ⟨cn, -, rfl⟩ := List.mem_map.mp ht
  exact namedControls_ilasTable hwt

/-- The word a TX lane sends in a cycle (R251). -/
theorem namedControls_out {p : Params} {c : Settings} {lk : Link} (h : linkBuild p c = .ok lk) (s : State) (n : Nat) (l : TxLane) :
    NamedControls (txSigIn lk s n l).out := by
  simp only [txSigIn]
  split_ifs
  · exact namedControls_cgsWord lk.opc
  · cases hw : memReadIlas lk n l.ilasIdx with
    | none => exact fun y hy => absurd hy List.not_mem_nil
    | some w => exact namedControls_entry h hw
  · exact namedControls_insertedWord lk l

/-! ## A reserved symbol received (R94) -/

section
variable {w : LinkWord} {d : Octet} (hd : namedControl d = false)
include hd

theorem isR_reserved : isR ⟨true, d⟩ = false := by
  obtain ⟨hR, -⟩ := namedControl_eq_false.mp hd
  simp [isR, hR]

variable (hw : (⟨true, d⟩ : Sym) ∈ w)
include hw

/-- A word with a reserved symbol is no CGS word: that symbol is no `/K/` (R221). -/
theorem cgsValid_reserved : cgsValid w = false := by
  obtain ⟨-, -, -, hK, -⟩ := namedControl_eq_false.mp hd
  exact List.all_eq_false.mpr ⟨_, hw, by simp [hK]⟩

/-- A word with a reserved symbol starts no ILAS: in slot 0 it is no `/R/`, and in another slot its flag is 1 (R230). -/
theorem ilasStartValid_reserved : ilasStartValid w = false := by
  obtain ⟨hR, -⟩ := namedControl_eq_false.mp hd
  cases w with
  | nil => rfl
  | cons x t =>
    rcases List.mem_cons.mp hw with rfl | ht
    · simp [ilasStartValid, hR]
    · have hflag : t.all (fun y => !y.ctrl) = false := List.all_eq_false.mpr ⟨_, ht, by simp⟩
      simp [ilasStartValid, hflag]

end

end Sys2Proof.Machine

namespace Sys2Proof.Proofs

open Sys2Proof Sys2Proof.Machine Sys2Proof.Laws

/-- Settles O3: a reserved octet is none of the five the checkers look for; and the words a TX lane sends in a cycle, the CGS word, the
ILAS entry and the AlignInserter's word, hold named control characters only. -/
theorem reservedSymbolsHaveNoMeaning : Obligations.ReservedSymbolsHaveNoMeaning := by
  refine ⟨fun w e d l hd hw => ?received, fun s t lk inp rest x y hinv hl hp hstep hx hy => ?sent⟩
  case received =>
    refine ⟨cgsValid_reserved hd hw, ilasStartValid_reserved hd hw, isR_reserved hd, fun hin he => ?_, ?_⟩
    · exact beq_eq_false_iff_ne.mpr fun heq => he (heq ▸ hin ▸ hw)
    · exact List.mem_map.mpr ⟨_, hw, rfl⟩
  case sent =>
    obtain ⟨hbuild, -⟩ := hinv.1 lk hl
    rw [cycle_of_step hinv hl hp hstep] at hx
    obtain ⟨n, hn, rfl⟩ := List.mem_mapIdx.mp hx
    exact namedControls_out hbuild _ _ _ y hy

end Sys2Proof.Proofs
end

section
/-! The register values that stop the machine (60_exceptions.md R305, 30_encoding.md R104): each guard of Machine/Ops.lean on a value
out of range, and the operations and components of a TX lane in the state code 11. -/

namespace Sys2Proof.Machine

open Sys2Proof Sys2Proof.Laws

/-! ## The guards that fail -/

theorem withLmfc_illegal {s : State} {lk : Link} {e : Engine} (hl : s.link = some lk) (hc : lk.c ≤ (s.lmfc e).count)
    (k : Link → Lmfc → Out) : withLmfc e s k = .fault (.lmfcCountRange e) := by
  rw [withLmfc, withLink_some hl, withCount_illegal hc]

/-- One TX lane with the state code 11 stops an operation that reads every lane's state. -/
theorem withTxStates_illegal {s : State} {l : TxLane} (hmem : l ∈ s.cur.tx) (h3 : l.state = 3) (o : Out) :
    ∃ m, withTxStates s o = .fault (.txStateIllegal m) := by
  cases hfind : s.cur.tx.findIdx? (fun l => l.state == 3) with
  | none => exact absurd h3 (by simpa using List.findIdx?_eq_none_iff.mp hfind l hmem)
  | some m => exact ⟨m, by rw [withTxStates, hfind]⟩

theorem withEntry_illegal {lk : Link} {i : Nat} (h : lk.len ≤ i) (n : Nat) (k : LinkWord → Out) :
    withEntry n i lk k = .fault (.ilasIndexRange n) := by
  rw [withEntry, memReadIlas, if_neg (Nat.not_lt.mpr h)]

/-! ## A TX lane in the state code 11 -/

/-- The select ports of a TX lane's components (46_link_fsm.md R250). -/
def txLanePort : Port → Bool
  | .txFsm | .scr | .framer | .alignIns | .cgsGen | .ilasGen | .txDesync | .txSyncLoss => true
  | _ => false

theorem portLane_of_txLanePort {p : Port} (hp : txLanePort p = true) (n : Nat) : portLane p n = n := by
  cases p with
  | txAgg | rxAgg => cases hp
  | _ => rfl

theorem bit_lt (b : Bool) : bit b < 2 := by cases b <;> decide

/-- A TX lane's control bits fit in the select bits of the component they select for. -/
theorem txSel_lt (lk : Link) (s : State) (l : TxLane) (p : Port) (n j : Nat) : txSel lk s l ⟨p, n, j⟩ < 2 ^ selBits p := by
  cases p with
  | txFsm => exact l.state.isLt
  | scr =>
    have hrst := bit_lt (scrRst s l)
    have hscr := bit_lt lk.scr
    simp only [txSel, bits2, selBits]
    omega
  | framer => exact bit_lt _
  | ilasGen => exact bit_lt _
  | alignIns =>
    have hmf := bit_lt (lastMf lk l j)
    have hf := bit_lt (lastF lk j)
    have hA := bit_lt (l.scrOut.getD j 0 == charA)
    have hF := bit_lt (l.scrOut.getD j 0 == charF)
    simp only [txSel, slotSel, selBits]
    omega
  | _ => exact Nat.two_pow_pos _

section
variable {s : State} {lk : Link} {n : Nat} {l : TxLane} (hl : s.link = some lk) (hn : s.cur.tx[n]? = some l) (h3 : l.state = 3)
include hl hn h3

/-- Every operation of the lane's components stops (R104). -/
theorem exec_txStateIllegal {i : Instr} (hport : txLanePort i.port = true) (hlane : laneOf i = n) :
    exec i s = .fault (.txStateIllegal n) := by
  subst hlane
  cases i with
  | txIllegal => rfl
  | txSendCgs | txSendIlas | txSendData | scrReset | scrStep | scrBypass | framerReset | framerStep | alignInsA | alignInsF
  | alignInsPass | cgsGen | ilasGenReset | ilasGenStep | txDesync | txSyncLoss => exact withTx_illegal hl hn h3 _
  | _ => cases hport

/-- Whatever operation its control bits select, every component of the lane stops. -/
theorem runInstance_txStateIllegal {p : Port} (hp : txLanePort p = true) (j : Nat) :
    runInstance ⟨p, n, j⟩ s = .fault (.txStateIllegal n) := by
  have hports : p = .txDesync ∨ p = .framer ∨ p = .scr ∨ p = .cgsGen ∨ p = .ilasGen ∨ p = .alignIns ∨ p = .txFsm ∨ p = .txSyncLoss := by
    cases p <;> simp [txLanePort] at hp ⊢
  have hcfg : p ≠ .cfgop := by rintro rfl; cases hp
  have hlmfc : p ≠ .lmfc := by rintro rfl; cases hp
  obtain ⟨i, hi⟩ := decodeSel_total j hcfg (fun h => absurd h hlmfc) (txSel_lt lk s l p n j)
  have hlane : laneOf i = n := (decodeSel_names hi).laneOf_eq.trans (portLane_of_txLanePort hp n)
  rw [runInstance_tx hl hn j hports, runSel_ok hi]
  exact exec_txStateIllegal hl hn h3 (decodeSel_port hi ▸ hp) hlane

end

end Sys2Proof.Machine

namespace Sys2Proof.Proofs

open Sys2Proof Sys2Proof.Machine Sys2Proof.Laws

/-- Settles O47: each operation listed passes through a guard that the value fails. -/
theorem illegalStatesFault : Obligations.IllegalStatesFault := by
  refine ⟨fun s n => rfl, fun s lk n j l a b v hl hn h3 => ⟨fun i hi => ?txOperation, fun p hp => ?txComponent, ?txAgg⟩,
    fun s lk l => ⟨nextSendCgs_ne_illegal s, nextSendIlas_ne_illegal lk s l, nextSendData_ne_illegal lk s l⟩,
    fun s lk e r hl hc i hi => ?lmfc, fun s lk n l hat hc => ?txSendCgs, fun s lk n l hat hc => ?rxReceiveCgs,
    fun s lk hl hc => ?rxAgg, fun s lk n l r hl hn hoff i hi => ?rxOperation, fun s lk n l hat hidx i hi => ?txEntry,
    fun s lk n l hat hidx i hi => ?rxEntry⟩
  case txOperation =>
    have hi' : txLanePort i.port = true ∧ laneOf i = n := by fin_cases hi <;> exact ⟨rfl, rfl⟩
    exact exec_txStateIllegal hl hn h3 hi'.1 hi'.2
  case txComponent =>
    have hp' : txLanePort p = true := by fin_cases hp <;> rfl
    exact runInstance_txStateIllegal hl hn h3 hp' j
  case txAgg =>
    obtain ⟨m, hm⟩ := withTxStates_illegal (List.mem_of_getElem? hn) h3 _
    exact ⟨m, (withLink_some hl _).trans hm⟩
  case lmfc => fin_cases hi <;> simp only [exec, execLmfcReset, execLmfcLoad, execLmfcCount, withLmfc_illegal hl hc]
  case txSendCgs => exact (withTx_at hat _).trans (withCount_illegal hc _)
  case rxReceiveCgs => exact (withRx_at hat _).trans (withCount_illegal hc _)
  case rxAgg => exact (withLink_some hl _).trans (withCount_illegal hc _)
  case rxOperation => fin_cases hi <;> exact withRx_illegal hl hn hoff _
  case txEntry => fin_cases hi <;> exact (withTx_at hat _).trans (withEntry_illegal hidx n _)
  case rxEntry => fin_cases hi <;> exact (withRx_at hat _).trans (withEntry_illegal hidx n _)

/-- Settles O1: each of the seven presents its symbol, in a slot the word has. -/
theorem symbolOperationsPresentTheirSymbol : Obligations.SymbolOperationsPresentTheirSymbol := by
  intro s n j w d hn hj
  have hput := presentSymbol_ok hn hj
  exact ⟨hput ⟨true, charR⟩, hput ⟨true, charA⟩, hput ⟨true, charQ⟩, hput ⟨true, charK⟩, hput ⟨true, charF⟩, hput ⟨false, d⟩,
    hput ⟨true, d⟩⟩

/-- Settles O4: the decoder evaluated on the fourteen records. -/
theorem tableWordsDecode : Obligations.TableWordsDecode := by
  refine ⟨?_, ?_, ?_, ?_, ?_, ?_, ?_, ?_, ?_, ?_, ?_, ?_, ?_, ?_⟩ <;> rfl

/-- Settles O42: CFGOP.RESERVED has no other branch, and the decoder evaluated on the two numbers. -/
theorem reservedConfigNumbersFault : Obligations.ReservedConfigNumbersFault :=
  fun _ _ => ⟨rfl, rfl, rfl⟩

end Sys2Proof.Proofs
end

section
/-! The settings fields as bits of the register (30_encoding.md R95, R96; 41_link_settings.md R120 to R124): which bits a field reads
and writes, and that no two fields share one. -/

namespace Sys2Proof.Machine

open Sys2Proof

/-! ## The descriptor table (R120) -/

theorem Field.mem_all (f : Field) : f ∈ Field.all := by cases f <;> decide

/-- Bit `b` of octet `o` belongs to field `f`. -/
abbrev InField (f : Field) (o : Fin 14) (b : Nat) : Prop :=
  o = (fieldDescr f).octet ∧ (fieldDescr f).off ≤ b ∧ b < (fieldDescr f).off + (fieldDescr f).width

/-- Every field lies in its octet. -/
theorem fieldDescr_fits (f : Field) : (fieldDescr f).off + (fieldDescr f).width ≤ 8 := by cases f <;> decide

/-- Fields in one octet stand one after the other. -/
theorem fieldDescr_disjoint {f g : Field} (h : g ≠ f) (ho : (fieldDescr g).octet = (fieldDescr f).octet) :
    (fieldDescr f).off + (fieldDescr f).width ≤ (fieldDescr g).off ∨ (fieldDescr g).off + (fieldDescr g).width ≤ (fieldDescr f).off := by
  have htable : ∀ f ∈ Field.all, ∀ g ∈ Field.all, g ≠ f → (fieldDescr g).octet = (fieldDescr f).octet →
      (fieldDescr f).off + (fieldDescr f).width ≤ (fieldDescr g).off
        ∨ (fieldDescr g).off + (fieldDescr g).width ≤ (fieldDescr f).off := by decide
  exact htable f (Field.mem_all f) g (Field.mem_all g) h ho

theorem inField_disjoint {f g : Field} {o : Fin 14} {b : Nat} (h : g ≠ f) (hg : InField g o b) : ¬ InField f o b := by
  rintro ⟨hof, hlo, hhi⟩
  obtain ⟨hog, hlo', hhi'⟩ := hg
  have := fieldDescr_disjoint h (hog.symm.trans hof)
  omega

/-- Octet 13 is FCHK's alone. -/
theorem fieldDescr_octet_ne_fchk {f : Field} (h : f ≠ .FCHK) : (fieldDescr f).octet ≠ 13 := by
  cases f with
  | FCHK => exact absurd rfl h
  | _ => decide

/-! ## Bits of an octet -/

theorem lowMask_getLsbD {b : Nat} (hb : b < 8) (w : Nat) : (lowMask w).getLsbD b = decide (b < w) := by
  rw [lowMask, BitVec.getLsbD_ofNat, Nat.testBit_two_pow_sub_one, decide_eq_true hb, Bool.true_and]

/-- `insertBits` replaces `w` bits from `off` on and keeps the others. -/
theorem insertBits_getLsbD {off w v b : Nat} (hv : v < 2 ^ w) (hb : b < 8) (x : Octet) :
    (insertBits x off w v).getLsbD b = if off ≤ b ∧ b < off + w then v.testBit (b - off) else x.getLsbD b := by
  simp only [insertBits, BitVec.getLsbD_or, BitVec.getLsbD_and, BitVec.getLsbD_not, BitVec.getLsbD_shiftLeft, BitVec.getLsbD_ofNat,
    lowMask_getLsbD (show b - off < 8 by omega), hb, show b - off < 8 by omega]
  rcases Nat.lt_or_ge b off with hlow | hlow
  · simp [hlow, Nat.not_le.mpr hlow]
  rcases Nat.lt_or_ge b (off + w) with hhigh | hhigh
  · simp [hlow, hhigh, Nat.not_lt.mpr hlow, show b - off < w by omega]
  · have hzero : v.testBit (b - off) = false :=
      Nat.testBit_lt_two_pow (hv.trans_le (Nat.pow_le_pow_right (by omega) (by omega)))
    simp [hzero, Nat.not_lt.mpr hhigh, show ¬ b - off < w by omega]

/-- Settings whose bits agree are equal. -/
theorem settings_ext_bits {c d : Settings} (h : ∀ o b, b < 8 → (memReadCfg c o).getLsbD b = (memReadCfg d o).getLsbD b) : c = d :=
  settings_ext fun o => BitVec.eq_of_getLsbD_eq fun b hb => h o b hb

/-! ## Reading a field -/

/-- The stored bit-field, bit by bit. -/
theorem rawField_testBit (f : Field) (c : Settings) (i : Nat) :
    (rawField f c).testBit i
      = (decide (i < (fieldDescr f).width) && (memReadCfg c (fieldDescr f).octet).getLsbD ((fieldDescr f).off + i)) := by
  have hfits := fieldDescr_fits f
  rcases Nat.lt_or_ge i 8 with hi | hi
  · rw [rawField, ← BitVec.getLsbD, BitVec.getLsbD_and, BitVec.getLsbD_ushiftRight, lowMask_getLsbD hi, Bool.and_comm]
  · have hw : ¬ i < (fieldDescr f).width := by omega
    rw [rawField, ← BitVec.getLsbD, BitVec.getLsbD_of_ge _ _ hi]
    simp [hw]

theorem rawField_eq_div_mod (f : Field) (c : Settings) :
    rawField f c = (memReadCfg c (fieldDescr f).octet).toNat / 2 ^ (fieldDescr f).off % 2 ^ (fieldDescr f).width := by
  refine Nat.eq_of_testBit_eq fun i => ?_
  rw [rawField_testBit, Nat.testBit_mod_two_pow, Nat.testBit_div_two_pow, BitVec.getLsbD, Nat.add_comm]

theorem rawField_lt (f : Field) (c : Settings) : rawField f c < 2 ^ (fieldDescr f).width := by
  rw [rawField_eq_div_mod]
  exact Nat.mod_lt _ (Nat.two_pow_pos _)

/-- A field depends on the bits of its octet in its range only. -/
theorem rawField_congr {f : Field} {c d : Settings}
    (h : ∀ o b, b < 8 → InField f o b → (memReadCfg d o).getLsbD b = (memReadCfg c o).getLsbD b) : rawField f d = rawField f c := by
  have hfits := fieldDescr_fits f
  refine Nat.eq_of_testBit_eq fun i => ?_
  rw [rawField_testBit, rawField_testBit]
  by_cases hi : i < (fieldDescr f).width
  · rw [h _ _ (by omega) ⟨rfl, by omega, by omega⟩]
  · simp [hi]

theorem getField_congr {f : Field} {c d : Settings} (h : rawField f d = rawField f c) : getField f d = getField f c := by
  rw [getField, getField, h]

/-! ## Writing a field (R122) -/

/-- The register with `w` stored in field `f`'s bits, as `set_field` writes it (`setField_eq_ok`). -/
def writeField (f : Field) (w : Nat) (c : Settings) : Settings :=
  memWriteCfg c (fieldDescr f).octet
    (insertBits (memReadCfg c (fieldDescr f).octet) (fieldDescr f).off (fieldDescr f).width w)

/-- The natural value of a stored one (R96). -/
def naturalValue (f : Field) (w : Nat) : Nat := if (fieldDescr f).isCount then w + 1 else w

theorem getField_eq_naturalValue (f : Field) (c : Settings) : getField f c = naturalValue f (rawField f c) := rfl

theorem storedValue_eq_some {f : Field} {v w : Nat} :
    storedValue f v = some w ↔ w < 2 ^ (fieldDescr f).width ∧ v = naturalValue f w := by
  simp only [storedValue, naturalValue]
  grind

theorem setField_of_stored {f : Field} {v w : Nat} (h : storedValue f v = some w) (c : Settings) :
    setField f v c = .ok (writeField f w c) := by
  simp only [setField, h, writeField]

theorem setField_of_unfit {f : Field} {v : Nat} (h : storedValue f v = none) (c : Settings) :
    setField f v c = .error (.rangeError (some f)) := by
  simp only [setField, h]

/-- `set_field` succeeds exactly on the natural values of what fits in the field. -/
theorem setField_eq_ok {f : Field} {v : Nat} {c d : Settings} :
    setField f v c = .ok d ↔ ∃ w, w < 2 ^ (fieldDescr f).width ∧ v = naturalValue f w ∧ writeField f w c = d := by
  cases hs : storedValue f v with
  | none => simp [setField_of_unfit hs, ← and_assoc, ← storedValue_eq_some, hs]
  | some w => simp [setField_of_stored hs, ← and_assoc, ← storedValue_eq_some, hs]

/-- Bit by bit, a write stores the value in the field and keeps every other bit of the register. -/
theorem writeField_getLsbD {f : Field} {w b : Nat} (hw : w < 2 ^ (fieldDescr f).width) (hb : b < 8) (c : Settings) (o : Fin 14) :
    (memReadCfg (writeField f w c) o).getLsbD b
      = if InField f o b then w.testBit (b - (fieldDescr f).off) else (memReadCfg c o).getLsbD b := by
  by_cases ho : o = (fieldDescr f).octet
  · subst ho
    simp [writeField, insertBits_getLsbD hw hb, InField]
  · simp [writeField, memReadCfg_write_other (Ne.symm ho), ho]

theorem writeField_octet_other {f : Field} {o : Fin 14} (h : o ≠ (fieldDescr f).octet) (w : Nat) (c : Settings) :
    memReadCfg (writeField f w c) o = memReadCfg c o := memReadCfg_write_other (Ne.symm h) _ _

theorem rawField_writeField_same {f : Field} {w : Nat} (hw : w < 2 ^ (fieldDescr f).width) (c : Settings) :
    rawField f (writeField f w c) = w := by
  have hfits := fieldDescr_fits f
  refine Nat.eq_of_testBit_eq fun i => ?_
  rw [rawField_testBit]
  rcases Nat.lt_or_ge i (fieldDescr f).width with hi | hi
  · rw [writeField_getLsbD hw (by omega)]
    simp [hi]
  · have hzero : w.testBit i = false := Nat.testBit_lt_two_pow (hw.trans_le (Nat.pow_le_pow_right (by omega) hi))
    simp [hzero, Nat.not_lt.mpr hi]

theorem rawField_writeField_other {f g : Field} (hg : g ≠ f) {w : Nat} (hw : w < 2 ^ (fieldDescr f).width) (c : Settings) :
    rawField g (writeField f w c) = rawField g c :=
  rawField_congr fun o b hb hin => by rw [writeField_getLsbD hw hb, if_neg (inField_disjoint hg hin)]

/-- Writing a field back leaves the register. -/
theorem writeField_rawField (f : Field) (c : Settings) : writeField f (rawField f c) c = c := by
  refine settings_ext_bits fun o b hb => ?_
  rw [writeField_getLsbD (rawField_lt f c) hb]
  split
  · rename_i hin
    obtain ⟨rfl, hlo, hhi⟩ := hin
    have hi : b - (fieldDescr f).off < (fieldDescr f).width := by omega
    rw [rawField_testBit, decide_eq_true hi, Bool.true_and, Nat.add_sub_cancel' hlo]
  · rfl

end Sys2Proof.Machine

namespace Sys2Proof.Proofs

open Sys2Proof Sys2Proof.Machine

/-- Settles O9: a value that fits is stored bit by bit (`writeField_getLsbD`), and any other raises. -/
theorem setFieldWritesOnlyItsBits : Obligations.SetFieldWritesOnlyItsBits := by
  intro s f v d stored fits
  have hstored : storedValue f v = if fits then some stored else none := by
    simp only [storedValue, fits, stored, d]
    grind
  refine ⟨fun hfits => ?fits, fun hfits => ?unfit⟩
  case fits =>
    rw [if_pos hfits] at hstored
    refine ⟨changeSettings (writeField f stored s.cfg) s, ?_, rfl, fun o b hb => writeField_getLsbD hfits.2 hb s.cfg o⟩
    simp only [exec, execCfgSetField, setField_of_stored hstored]
  case unfit =>
    rw [if_neg hfits] at hstored
    simp only [exec, execCfgSetField, setField_of_unfit hstored, raiseCfg]

/-- Settles O10: the value read is the field's bits as a number (`rawField_eq_div_mod`); the rest is what the two operations answer. -/
theorem settingsAreReadWithoutSideEffect : Obligations.SettingsAreReadWithoutSideEffect := by
  intro s f d raw
  have hvalue : getField f s.cfg = if d.isCount = true then raw + 1 else raw := by rw [getField, rawField_eq_div_mod]
  exact ⟨by rw [exec, execCfgGetField, hvalue], rfl⟩

/-- Settles O11: a field's bits read back as what was stored, and no two fields share a bit. -/
theorem fieldsAreIndependent : Obligations.FieldsAreIndependent := by
  intro c c' f v h
  obtain ⟨w, hw, rfl, rfl⟩ := setField_eq_ok.mp h
  refine ⟨?_, fun g hg => getField_congr (rawField_writeField_other hg hw c)⟩
  rw [getField_eq_naturalValue, rawField_writeField_same hw]

end Sys2Proof.Proofs
end

section
/-! The checksum and the validity checks (41_link_settings.md R126, R133): what they are computed from. FCHK is not part of it, so
`recompute_checksum` (R125) changes neither its checks nor its sum. -/

namespace Sys2Proof.Machine

open Sys2Proof

/-! ## The octets as a list (20_memory.md R72) -/

theorem settings_toList (c : Settings) : c.toList = (List.finRange 14).map (memReadCfg c) := by
  refine List.ext_getElem (by simp) fun i hi hi' => ?_
  simp [memReadCfg, Vector.get_eq_getElem]

theorem map_ofNat_toNat (c : Settings) : (c.toList.map BitVec.toNat).map (BitVec.ofNat 8) = c.toList := by
  simp [Function.comp_def]

theorem toNat_toList_lt (c : Settings) : ∀ x ∈ c.toList.map BitVec.toNat, x < 256 := by
  intro x hx
  obtain ⟨d, -, rfl⟩ := List.mem_map.mp hx
  exact d.isLt

/-! ## The sums (R126) -/

theorem checksum_octets (c : Settings) :
    checksum .octets c = BitVec.ofNat 8 (sumNat (((List.finRange 14).take 11).map fun o => (memReadCfg c o).toNat)) := by
  rw [checksum, settings_toList, ← List.map_take, List.map_map]
  rfl

/-- Neither sum reads FCHK. -/
theorem checksum_congr {c d : Settings} (h : ∀ o, o ≠ 13 → memReadCfg d o = memReadCfg c o) (m : ChecksumMode) :
    checksum m d = checksum m c := by
  cases m with
  | octets =>
    have hne : ∀ o ∈ (List.finRange 14).take 11, o ≠ 13 := by decide
    rw [checksum_octets, checksum_octets, List.map_congr_left fun o ho => by rw [h o (hne o ho)]]
  | fields =>
    have hne : ∀ f ∈ checksumFields, (fieldDescr f).octet ≠ 13 := by decide
    have hraw : ∀ f ∈ checksumFields, rawField f d = rawField f c := fun f hf =>
      rawField_congr fun o b _ hin => by rw [h o (hin.1 ▸ hne f hf)]
    simp only [checksum, List.map_congr_left hraw]

/-! ## FCHK -/

theorem memWriteCfg_write (c : Settings) (a : Fin 14) (v w : Octet) : memWriteCfg (memWriteCfg c a v) a w = memWriteCfg c a w := by
  refine settings_ext fun o => ?_
  by_cases ho : a = o
  · subst ho
    simp
  · simp only [memReadCfg_write_other ho]

theorem memWriteCfg_read (c : Settings) (a : Fin 14) : memWriteCfg c a (memReadCfg c a) = c := by
  refine settings_ext fun o => ?_
  by_cases ho : a = o
  · subst ho
    simp
  · rw [memReadCfg_write_other ho]

theorem checksum_write_fchk (m : ChecksumMode) (c : Settings) (v : Octet) : checksum m (memWriteCfg c 13 v) = checksum m c :=
  checksum_congr (fun _ ho => memReadCfg_write_other (Ne.symm ho) c v) m

theorem rawField_write_fchk {f : Field} (hf : f ≠ .FCHK) (c : Settings) (v : Octet) :
    rawField f (memWriteCfg c 13 v) = rawField f c :=
  rawField_congr fun o b _ hin => by
    rw [memReadCfg_write_other (hin.1 ▸ (fieldDescr_octet_ne_fchk hf).symm)]

/-! ## Validity (R133) -/

theorem validateSettings_f {c : Settings} (h : ¬ (getField .F c = 1 ∨ getField .F c = 2 ∨ getField .F c = 4)) :
    validateSettings c = .error (.configError .F_UNSUPPORTED) := by rw [validateSettings, if_pos h]

theorem validateSettings_msnp {c : Settings} (hf : getField .F c = 1 ∨ getField .F c = 2 ∨ getField .F c = 4)
    (h : getField .M c * getField .S c * getField .NP c ≠ 8 * getField .F c * getField .L c) :
    validateSettings c = .error (.configError .MSNP) := by rw [validateSettings, if_neg (not_not.mpr hf), if_pos h]

theorem validateSettings_eq_ok {c : Settings} :
    validateSettings c = .ok () ↔ (getField .F c = 1 ∨ getField .F c = 2 ∨ getField .F c = 4)
      ∧ getField .M c * getField .S c * getField .NP c = 8 * getField .F c * getField .L c := by
  unfold validateSettings
  split_ifs <;> simp_all

/-- The checks read neither LID nor FCHK. -/
theorem validateSettings_congr {c d : Settings} (h : ∀ f, f ≠ .LID → f ≠ .FCHK → rawField f d = rawField f c) :
    validateSettings d = validateSettings c := by
  have hget : ∀ f, f ≠ .LID → f ≠ .FCHK → getField f d = getField f c := fun f h1 h2 => getField_congr (h f h1 h2)
  simp only [validateSettings, hget .F, hget .M, hget .S, hget .NP, hget .L, ne_eq, reduceCtorEq, not_false_eq_true]

/-! ## `recompute_checksum` and `deserialize` (R125, R128) -/

theorem recompute_of_invalid {c : Settings} {e : CfgError} (h : validateSettings c = .error e) (m : ChecksumMode) :
    recompute m c = .error e := by rw [recompute, h]

theorem recompute_of_valid {c : Settings} (h : validateSettings c = .ok ()) (m : ChecksumMode) :
    recompute m c = .ok (memWriteCfg c 13 (checksum m c)) := by rw [recompute, h]

theorem recompute_eq_ok {m : ChecksumMode} {c d : Settings} :
    recompute m c = .ok d ↔ validateSettings c = .ok () ∧ memWriteCfg c 13 (checksum m c) = d := by
  cases h : validateSettings c with
  | error e => simp [recompute_of_invalid h]
  | ok u => simp [recompute_of_valid h]

/-- FCHK is current after `recompute_checksum`. -/
theorem fchk_recomputed (m : ChecksumMode) (c : Settings) :
    memReadCfg (memWriteCfg c 13 (checksum m c)) 13 = checksum m (memWriteCfg c 13 (checksum m c)) := by
  rw [memReadCfg_write_same, checksum_write_fchk]

/-- The register with another FCHK is recomputed to the same octets. -/
theorem recompute_write_fchk (m : ChecksumMode) (c : Settings) (v : Octet) : recompute m (memWriteCfg c 13 v) = recompute m c := by
  have hvalid : validateSettings (memWriteCfg c 13 v) = validateSettings c :=
    validateSettings_congr fun f _ hf => rawField_write_fchk hf c v
  simp only [recompute, hvalid, checksum_write_fchk, memWriteCfg_write]

theorem deserialize_of_misshapen {b : List Nat} (h : ¬ (b.length = 14 ∧ ∀ x ∈ b, x < 256)) (m : ChecksumMode) :
    deserialize m b = .error (.rangeError none) := by rw [deserialize, dif_neg h]

/-- `deserialize` of a register's octets: the register, if its FCHK is current. -/
theorem deserialize_octets (m : ChecksumMode) (c : Settings) :
    deserialize m (c.toList.map BitVec.toNat) = if checksum m c = memReadCfg c 13 then .ok c else .error .checksumMismatch := by
  have hread : ∀ h, (⟨((c.toList.map BitVec.toNat).map (BitVec.ofNat 8)).toArray, h⟩ : Settings) = c := fun h => by
    apply Vector.toList_inj.mp
    simpa [Vector.toList] using map_ofNat_toNat c
  rw [deserialize, dif_pos ⟨by simp, toNat_toList_lt c⟩]
  simp only [hread, ne_eq, ite_not]

/-- Every array of 14 octet values is some register's octets. -/
theorem exists_settings_of_octets {b : List Nat} (hlen : b.length = 14) (hlt : ∀ x ∈ b, x < 256) :
    ∃ d : Settings, d.toList.map BitVec.toNat = b := by
  refine ⟨⟨(b.map (BitVec.ofNat 8)).toArray, by simp [hlen]⟩, ?_⟩
  have hback : ∀ x ∈ b, x % 256 = x := fun x hx => Nat.mod_eq_of_lt (hlt x hx)
  simpa [Vector.toList, Function.comp_def] using List.map_congr_left hback

end Sys2Proof.Machine

namespace Sys2Proof.Proofs

open Sys2Proof Sys2Proof.Machine

/-- Settles O12: the sums written out over the eleven octets and the nineteen fields. -/
theorem checksumSums : Obligations.ChecksumSums := by
  intro c o r
  have hoctets : ((List.finRange 14).take 11).map (fun i => (memReadCfg c i).toNat)
      = [o 0, o 1, o 2, o 3, o 4, o 5, o 6, o 7, o 8, o 9, o 10] := rfl
  refine ⟨?octets, ?fields⟩
  case octets =>
    rw [checksum_octets, hoctets, BitVec.toNat_ofNat]
    simp only [sumNat, Nat.add_assoc, Nat.add_zero]
  case fields =>
    rw [checksum, BitVec.toNat_ofNat]
    simp only [checksumFields, List.map, sumNat, Nat.add_assoc, Nat.add_zero, r]

/-- Settles O13: the two checks in order, and then a write of octet 13, which no check and no sum reads. -/
theorem recomputeValidatesThenWrites : Obligations.RecomputeValidatesThenWrites := by
  intro s F goodF msnp
  refine ⟨fun hF => ?unsupported, fun hF hne => ?mismatch, fun hF heq => ?valid⟩
  case unsupported => simp only [exec, execCfgRecompute, recompute_of_invalid (validateSettings_f hF), raiseCfg]
  case mismatch => simp only [exec, execCfgRecompute, recompute_of_invalid (validateSettings_msnp hF hne), raiseCfg]
  case valid =>
    have hvalid := recompute_of_valid (validateSettings_eq_ok.mpr ⟨hF, heq⟩) s.params.mode
    refine ⟨changeSettings (memWriteCfg s.cfg 13 (checksum s.params.mode s.cfg)) s, ?_, rfl, ?_, fun o ho => ?_, ?_⟩
    · rw [exec, execCfgRecompute, hvalid]
    · exact memReadCfg_write_same _ _ _
    · exact memReadCfg_write_other (Ne.symm ho) _ _
    · rw [changeSettings_cfg, recompute_write_fchk, hvalid]

/-- Settles O14: the shape is checked first; what is then loaded are the register's own octets (`deserialize_octets`). -/
theorem deserializeChecksThenLoads : Obligations.DeserializeChecksThenLoads := by
  intro s b c shaped sound
  refine ⟨fun hshape => ?misshapen, fun _ hb => ⟨fun hsum => ?mismatch, fun hsum => ?loaded⟩,
    fun hshape => exists_settings_of_octets hshape.1 hshape.2⟩
  case misshapen => simp only [exec, execCfgDeserialize, deserialize_of_misshapen hshape, raiseCfg]
  case mismatch =>
    have hraise : deserialize s.params.mode b = .error .checksumMismatch := by rw [← hb, deserialize_octets, if_neg hsum]
    simp only [exec, execCfgDeserialize, hraise, raiseCfg]
  case loaded =>
    have hload : deserialize s.params.mode b = .ok c := by rw [← hb, deserialize_octets, if_pos hsum]
    exact ⟨changeSettings c s, by simp only [exec, execCfgDeserialize, hload], rfl⟩

/-- Settles O15: after `recompute_checksum` FCHK is current. -/
theorem serializeRoundTrip : Obligations.SerializeRoundTrip := by
  intro m c c' h
  obtain ⟨-, rfl⟩ := recompute_eq_ok.mp h
  rw [deserialize_octets, if_pos (fchk_recomputed m c).symm]

end Sys2Proof.Proofs
end

section
/-! What `link_build` checks and builds (41_link_settings.md R130, R134): the checks as one condition, and each lane's settings. -/

namespace Sys2Proof.Machine

open Sys2Proof

/-! ## Lane settings (R130) -/

theorem setField_LID_of_lt {lid : Nat} (h : lid < 32) (c : Settings) : setField .LID lid c = .ok (writeField .LID lid c) :=
  setField_eq_ok.mpr ⟨lid, h, rfl, rfl⟩

theorem setField_LID_of_ge {lid : Nat} (h : 32 ≤ lid) (c : Settings) : setField .LID lid c = .error (.rangeError (some .LID)) :=
  setField_of_unfit (by simp [storedValue, fieldDescr, h]) c

theorem validateSettings_write_LID {lid : Nat} (h : lid < 32) (c : Settings) :
    validateSettings (writeField .LID lid c) = validateSettings c :=
  validateSettings_congr fun _ hf _ => rawField_writeField_other hf h c

/-- A lane's settings: LID written, and FCHK recomputed. -/
def laneCfgOf (m : ChecksumMode) (lid : Nat) (c : Settings) : Settings :=
  memWriteCfg (writeField .LID lid c) 13 (checksum m (writeField .LID lid c))

theorem laneSettings_of_valid {c : Settings} (hc : validateSettings c = .ok ()) {lid : Nat} (h : lid < 32) (m : ChecksumMode) :
    laneSettings m lid c = .ok (laneCfgOf m lid c) := by
  rw [laneSettings, setField_LID_of_lt h]
  exact recompute_of_valid ((validateSettings_write_LID h c).trans hc) m

theorem laneSettings_of_ge {lid : Nat} (h : 32 ≤ lid) (m : ChecksumMode) (c : Settings) :
    laneSettings m lid c = .error (.rangeError (some .LID)) := by rw [laneSettings, setField_LID_of_ge h]

theorem laneSettings_eq_ok {m : ChecksumMode} {lid : Nat} {c d : Settings} (h : laneSettings m lid c = .ok d) :
    lid < 32 ∧ laneCfgOf m lid c = d := by
  rcases Nat.lt_or_ge lid 32 with hlid | hlid
  · rw [laneSettings, setField_LID_of_lt hlid] at h
    exact ⟨hlid, (recompute_eq_ok.mp h).2⟩
  · rw [laneSettings_of_ge hlid] at h
    cases h

/-- With all lane IDs in range every lane has its settings. -/
theorem laneSettingsFrom_of_valid {p : Params} {c : Settings} (hc : validateSettings c = .ok ()) {n k : Nat}
    (h : ∀ i, n ≤ i → i < n + k → p.lid i < 32) :
    laneSettingsFrom p c n k = .ok ((List.range' n k).map fun i => laneCfgOf p.mode (p.lid i) c) := by
  induction k generalizing n with
  | zero => rfl
  | succ k ih =>
    rw [laneSettingsFrom, laneSettings_of_valid hc (h n (by omega) (by omega)), ih fun i hi hk => h i (by omega) (by omega)]
    rfl

/-- A lane ID above 31 is the one error left on valid settings (log 25). -/
theorem laneSettingsFrom_of_lid_ge {p : Params} {c : Settings} (hc : validateSettings c = .ok ()) {n k : Nat}
    (h : ∃ i, n ≤ i ∧ i < n + k ∧ 32 ≤ p.lid i) : laneSettingsFrom p c n k = .error (.rangeError (some .LID)) := by
  induction k generalizing n with
  | zero =>
    obtain ⟨i, hi⟩ := h
    omega
  | succ k ih =>
    obtain ⟨i, hi, hk, hlid⟩ := h
    rcases Nat.lt_or_ge (p.lid n) 32 with hn | hn
    · have hne : i ≠ n := by rintro rfl; omega
      rw [laneSettingsFrom, laneSettings_of_valid hc hn, ih ⟨i, by omega, by omega, hlid⟩]
    · rw [laneSettingsFrom, laneSettings_of_ge hn]

theorem laneSettingsFrom_getElem? {p : Params} {c : Settings} {n k : Nat} {xs : List Settings}
    (h : laneSettingsFrom p c n k = .ok xs) {i : Nat} (hi : i < k) :
    ∃ x, xs[i]? = some x ∧ laneSettings p.mode (p.lid (n + i)) c = .ok x := by
  induction k generalizing n i xs with
  | zero => omega
  | succ k ih =>
    simp only [laneSettingsFrom] at h
    split at h
    · cases h
    rename_i x hx
    split at h
    · cases h
    rename_i xs' hxs
    cases h
    cases i with
    | zero => exact ⟨x, rfl, hx⟩
    | succ i =>
      obtain ⟨y, hy, hlane⟩ := ih hxs (i := i) (by omega)
      exact ⟨y, hy, by rwa [show n + (i + 1) = n + 1 + i by omega]⟩

theorem laneCfgOf_LID {lid : Nat} (h : lid < 32) (m : ChecksumMode) (c : Settings) : getField .LID (laneCfgOf m lid c) = lid := by
  rw [getField_eq_naturalValue, laneCfgOf, rawField_write_fchk (by decide), rawField_writeField_same h]
  rfl

theorem laneCfgOf_octet {o : Fin 14} (h2 : o ≠ 2) (h13 : o ≠ 13) (m : ChecksumMode) (lid : Nat) (c : Settings) :
    memReadCfg (laneCfgOf m lid c) o = memReadCfg c o := by
  rw [laneCfgOf, memReadCfg_write_other (Ne.symm h13), writeField_octet_other (f := .LID) h2]

/-- LID is the low 5 bits of octet 2. -/
theorem laneCfgOf_octet2_high {lid : Nat} (h : lid < 32) (m : ChecksumMode) (c : Settings) :
    memReadCfg (laneCfgOf m lid c) 2 >>> 5 = memReadCfg c 2 >>> 5 := by
  refine BitVec.eq_of_getLsbD_eq fun b _ => ?_
  rw [BitVec.getLsbD_ushiftRight, BitVec.getLsbD_ushiftRight, laneCfgOf, memReadCfg_write_other (by decide)]
  by_cases hb : 5 + b < 8
  · have hout : ¬ InField .LID 2 (5 + b) := fun hin => absurd hin.2.2 (by simp [fieldDescr])
    rw [writeField_getLsbD h hb, if_neg hout]
  · rw [BitVec.getLsbD_of_ge _ _ (by omega), BitVec.getLsbD_of_ge _ _ (by omega)]

/-- The register's own LID, with a current FCHK, changes nothing. -/
theorem laneCfgOf_self {m : ChecksumMode} {c : Settings} (h : memReadCfg c 13 = checksum m c) :
    laneCfgOf m (getField .LID c) c = c := by
  have hlid : writeField .LID (getField .LID c) c = c := writeField_rawField .LID c
  rw [laneCfgOf, hlid, ← h, memWriteCfg_read]

/-! ## The checks of `link_build` (R134) -/

/-- All checks of `link_build` before the lane IDs. -/
structure LinkChecks (p : Params) (c : Settings) : Prop where
  dw    : 8 ≤ p.dw ∧ p.dw % 8 = 0
  valid : validateSettings c = .ok ()
  fpc   : p.opc % getField .F c = 0
  kFpc  : getField .K c % (p.opc / getField .F c) = 0
  ilas  : 17 ≤ getField .K c * getField .F c ∧ 2 ≤ getField .K c / (p.opc / getField .F c)
  load  : p.lmfcLoad < getField .K c / (p.opc / getField .F c)

/-! ### The first check that fails is the error (R293) -/

section
variable {p : Params} {c : Settings}

theorem linkBuild_of_dw (h : ¬ (8 ≤ p.dw ∧ p.dw % 8 = 0)) : linkBuild p c = .error (.configError .DW) := by
  rw [linkBuild, if_pos (by omega)]

variable (hdw : 8 ≤ p.dw ∧ p.dw % 8 = 0)
include hdw

theorem linkBuild_of_invalid {e : CfgError} (h : validateSettings c = .error e) : linkBuild p c = .error e := by
  simp [linkBuild, Nat.not_lt.mpr hdw.1, hdw.2, h]

variable (hvalid : validateSettings c = .ok ())
include hvalid

theorem linkBuild_of_fpc (h : ¬ p.opc % getField .F c = 0) : linkBuild p c = .error (.configError .FPC) := by
  simp [linkBuild, Nat.not_lt.mpr hdw.1, hdw.2, hvalid, h]

variable (hfpc : p.opc % getField .F c = 0)
include hfpc

theorem linkBuild_of_kFpc (h : ¬ getField .K c % (p.opc / getField .F c) = 0) : linkBuild p c = .error (.configError .K_FPC) := by
  simp [linkBuild, Nat.not_lt.mpr hdw.1, hdw.2, hvalid, hfpc, h]

variable (hk : getField .K c % (p.opc / getField .F c) = 0)
include hk

theorem linkBuild_of_ilas (h : ¬ (17 ≤ getField .K c * getField .F c ∧ 2 ≤ getField .K c / (p.opc / getField .F c))) :
    linkBuild p c = .error (.configError .ILAS_SHORT) := by
  rcases not_and_or.mp h with hshort | hshort <;>
    simp [linkBuild, Nat.not_lt.mpr hdw.1, hdw.2, hvalid, hfpc, hk, Nat.not_le.mp hshort]

theorem linkBuild_of_load (hilas : 17 ≤ getField .K c * getField .F c ∧ 2 ≤ getField .K c / (p.opc / getField .F c))
    (h : ¬ p.lmfcLoad < getField .K c / (p.opc / getField .F c)) : linkBuild p c = .error (.configError .LOAD) := by
  simp [linkBuild, Nat.not_lt.mpr hdw.1, hdw.2, hvalid, hfpc, hk, Nat.not_lt.mpr hilas.1, Nat.not_lt.mpr hilas.2, h]

end

/-! ### All checks pass -/

section
variable {p : Params} {c : Settings} (h : LinkChecks p c)
include h

/-- `link_build` then raises what a lane's settings raise. -/
theorem LinkChecks.linkBuild_error {e : CfgError} (hlanes : laneSettingsFrom p c 0 (getField .L c) = .error e) :
    linkBuild p c = .error e := by
  obtain ⟨hdw, hvalid, hfpc, hk, hilas, hload⟩ := h
  simp [linkBuild, Nat.not_lt.mpr hdw.1, hdw.2, hvalid, hfpc, hk, Nat.not_lt.mpr hilas.1, Nat.not_lt.mpr hilas.2, hload, hlanes]

/-- With every lane's settings `link_build` builds a link. -/
theorem LinkChecks.linkBuild_ok {lanes : List Settings} (hlanes : laneSettingsFrom p c 0 (getField .L c) = .ok lanes) :
    ∃ lk, linkBuild p c = .ok lk := by
  obtain ⟨hdw, hvalid, hfpc, hk, hilas, hload⟩ := h
  simp [linkBuild, Nat.not_lt.mpr hdw.1, hdw.2, hvalid, hfpc, hk, Nat.not_lt.mpr hilas.1, Nat.not_lt.mpr hilas.2, hload, hlanes]

end

/-- The checks hold for every built link. -/
theorem linkChecks_of_linkBuild {p : Params} {c : Settings} {lk : Link} (h : linkBuild p c = .ok lk) : LinkChecks p c := by
  simp only [linkBuild] at h
  split at h
  · cases h
  rename_i hdw
  split at h
  · cases h
  rename_i hvalid
  split at h
  · cases h
  rename_i hfpc
  split at h
  · cases h
  rename_i hk
  split at h
  · cases h
  rename_i hilas
  split at h
  · cases h
  rename_i hload
  exact ⟨by omega, hvalid, not_not.mp hfpc, not_not.mp hk, by omega, not_not.mp hload⟩

end Sys2Proof.Machine

namespace Sys2Proof.Proofs

open Sys2Proof Sys2Proof.Machine

/-- Settles O17: each check is reached when the ones before it pass; after the last, only a lane ID can fail. -/
theorem linkBuildChecksInOrder : Obligations.LinkBuildChecksInOrder := by
  intro s dw F K L opc fpc okDW okF okMSNP okFPC okK okILAS okLOAD raises
  have raise : ∀ {e}, linkBuild s.params s.cfg = .error e → exec .cfgLinkBuild s = .next { s with reply := .error e } := fun h => by
    simp only [exec, execCfgLinkBuild, h, raiseCfg]
  have valid : okF → okMSNP → validateSettings s.cfg = .ok () := fun hF hM => validateSettings_eq_ok.mpr ⟨hF, hM⟩
  refine ⟨fun hdw => raise (linkBuild_of_dw hdw), fun hdw hF => raise (linkBuild_of_invalid hdw (validateSettings_f hF)),
    fun hdw hF hM => raise (linkBuild_of_invalid hdw (validateSettings_msnp hF hM)),
    fun hdw hF hM hfpc => raise (linkBuild_of_fpc hdw (valid hF hM) hfpc),
    fun hdw hF hM hfpc hk => raise (linkBuild_of_kFpc hdw (valid hF hM) hfpc hk),
    fun hdw hF hM hfpc hk hilas => raise (linkBuild_of_ilas hdw (valid hF hM) hfpc hk hilas),
    fun hdw hF hM hfpc hk hilas hload => raise (linkBuild_of_load hdw (valid hF hM) hfpc hk hilas hload),
    fun hdw hF hM hfpc hk hilas hload hlid => ?built, fun hdw hF hM hfpc hk hilas hload hlid => raise ?lid⟩
  case built =>
    have hlanes := laneSettingsFrom_of_valid (p := s.params) (n := 0) (k := L) (valid hF hM) fun i _ hi => hlid i (by omega)
    obtain ⟨lk, hb⟩ := LinkChecks.linkBuild_ok ⟨hdw, valid hF hM, hfpc, hk, hilas, hload⟩ hlanes
    obtain ⟨hparams, hcfg⟩ := linkBuild_params_cfg hb
    obtain ⟨hlaneCfg, htable⟩ := linkBuild_lanes hb
    have hlen : lk.laneCfg.length = L := (laneSettingsFrom_length hlaneCfg).trans (congrArg (getField .L) hcfg)
    exact ⟨{ instantiate lk s with reply := .built }, lk, by simp only [exec, execCfgLinkBuild, hb], rfl, rfl, hparams, hcfg, hlen,
      by rw [htable, List.length_map, hlen], rfl, rfl, rfl⟩
  case lid =>
    obtain ⟨n, hn, hlid⟩ := hlid
    exact LinkChecks.linkBuild_error ⟨hdw, valid hF hM, hfpc, hk, hilas, hload⟩
      (laneSettingsFrom_of_lid_ge (valid hF hM) ⟨n, by omega, by omega, hlid⟩)

/-- Settles O18: a lane's settings are `laneCfgOf`, which writes LID's bits and then octet 13. -/
theorem lanesCarryTheirOwnLid : Obligations.LanesCarryTheirOwnLid := by
  intro p c lk n hb hn
  obtain ⟨cn, hcn, hlane⟩ := laneSettingsFrom_getElem? (linkBuild_lanes hb).1 hn
  rw [Nat.zero_add] at hlane
  obtain ⟨hlid, rfl⟩ := laneSettings_eq_ok hlane
  refine ⟨_, hcn, laneCfgOf_LID hlid p.mode c, fun o h2 h13 => laneCfgOf_octet h2 h13 p.mode _ c, laneCfgOf_octet2_high hlid p.mode c,
    fchk_recomputed p.mode _, fun heq hcurrent => ?own⟩
  case own => rw [heq, laneCfgOf_self hcurrent]

/-- Settles O20: the checks of `link_build`, as equations between the derived constants. -/
theorem builtLinksAreExact : Obligations.BuiltLinksAreExact := by
  intro p c lk hb
  obtain ⟨hdw, hvalid, hfpc, hk, hilas, hload⟩ := linkChecks_of_linkBuild hb
  obtain ⟨hf, hmsnp⟩ := validateSettings_eq_ok.mp hvalid
  obtain ⟨rfl, rfl⟩ := linkBuild_params_cfg hb
  have hopc : lk.opc = lk.fpc * lk.f := (Nat.div_mul_cancel (Nat.dvd_of_mod_eq_zero hfpc)).symm
  have hcyc : lk.k = lk.c * lk.fpc := (Nat.div_mul_cancel (Nat.dvd_of_mod_eq_zero hk)).symm
  have hmf : lk.k * lk.f = lk.c * lk.opc := by rw [hcyc, hopc, Nat.mul_assoc]
  have hwidth : lk.opc = lk.params.dw / 8 := rfl
  refine ⟨hf, hmsnp, hopc, hcyc, hmf, hilas.1, hilas.2, by omega, by omega, hload, fun l j hlast => ?lastOctet⟩
  case lastOctet =>
    obtain ⟨-, hj⟩ : l.frCnt + 1 = lk.c ∧ j + 1 = lk.opc := by simpa [lastMf] using hlast
    rw [lastF, hj, hopc, Nat.mul_mod_left]
    rfl

end Sys2Proof.Proofs
end

section
/-! Named import of exported fields (41_link_settings.md R129): the fields other than FCHK, written one after the other, restore every bit
of the register that belongs to one of them. -/

namespace Sys2Proof.Machine

open Sys2Proof

/-- The fields an import writes: all but FCHK. -/
def importedFields : List Field := checksumFields ++ [.RES1, .RES2]

theorem withoutFchk_export (c : Settings) : withoutFchk (exportNamed c) = importedFields.map fun f => (f, getField f c) := rfl

/-- Writing the values of some of `c`'s fields: their bits are `c`'s, and every other bit is as before. -/
theorem setFields_export (c : Settings) (fs : List Field) (d : Settings) :
    ∃ e, setFields (fs.map fun f => (f, getField f c)) d = .ok e ∧ ∀ o b, b < 8 →
      (memReadCfg e o).getLsbD b
        = if ∃ f ∈ fs, InField f o b then (memReadCfg c o).getLsbD b else (memReadCfg d o).getLsbD b := by
  induction fs generalizing d with
  | nil => exact ⟨d, rfl, by simp⟩
  | cons f fs ih =>
    obtain ⟨e, he, hbits⟩ := ih (writeField f (rawField f c) d)
    have hset : setField f (getField f c) d = .ok (writeField f (rawField f c) d) :=
      setField_eq_ok.mpr ⟨rawField f c, rawField_lt f c, rfl, rfl⟩
    refine ⟨e, by simp only [List.map_cons, setFields, hset, he], fun o b hb => ?_⟩
    rw [hbits o b hb, writeField_getLsbD (rawField_lt f c) hb]
    by_cases hin : InField f o b
    · have hcopy := writeField_getLsbD (f := f) (rawField_lt f c) hb c o
      rw [writeField_rawField, if_pos hin] at hcopy
      rw [if_pos hin, ← hcopy, ite_self, if_pos ⟨f, List.mem_cons_self, hin⟩]
    · have hcons : (∃ g ∈ f :: fs, InField g o b) ↔ ∃ g ∈ fs, InField g o b := by
        rw [List.exists_mem_cons_iff, or_iff_right hin]
      simp only [hin, hcons, if_false]

/-- The bits of octets 0 to 12 that belong to no field (30_encoding.md R95). -/
def unusedBits : List (Fin 14 × Fin 8) := [(2, 7), (3, 5), (3, 6), (7, 5), (10, 5), (10, 6)]

theorem inField_or_unused : ∀ (o : Fin 14) (b : Fin 8), o ≠ 13 → (∃ f ∈ importedFields, InField f o b) ∨ (o, b) ∈ unusedBits := by
  decide

theorem unused_getLsbD {c : Settings} (h2 : memReadCfg c 2 &&& 0x80 = 0) (h3 : memReadCfg c 3 &&& 0x60 = 0)
    (h7 : memReadCfg c 7 &&& 0x20 = 0) (h10 : memReadCfg c 10 &&& 0x60 = 0) :
    ∀ x ∈ unusedBits, (memReadCfg c x.1).getLsbD x.2 = false := by
  have hmask : ∀ (x m : Octet) (b : Nat), x &&& m = 0 → m.getLsbD b = true → x.getLsbD b = false := fun x m b hx hm => by
    simpa [hm, -BitVec.getLsbD_eq_getElem] using congrArg (fun y => BitVec.getLsbD y b) hx
  intro x hx
  fin_cases hx
  · exact hmask _ _ 7 h2 (by decide)
  · exact hmask _ _ 5 h3 (by decide)
  · exact hmask _ _ 6 h3 (by decide)
  · exact hmask _ _ 5 h7 (by decide)
  · exact hmask _ _ 5 h10 (by decide)
  · exact hmask _ _ 6 h10 (by decide)

/-- From zero octets, the fields other than FCHK give the register back but for FCHK. -/
theorem setFields_importedFields {c : Settings} (hunused : ∀ x ∈ unusedBits, (memReadCfg c x.1).getLsbD x.2 = false) :
    ∃ v, setFields (withoutFchk (exportNamed c)) (Vector.replicate 14 0) = .ok (memWriteCfg c 13 v) := by
  obtain ⟨e, he, hbits⟩ := setFields_export c importedFields (Vector.replicate 14 0)
  have heq : e = memWriteCfg c 13 (memReadCfg e 13) := by
    refine settings_ext_bits fun o b hb => ?_
    by_cases ho : o = 13
    · rw [ho, memReadCfg_write_same]
    rw [memReadCfg_write_other (Ne.symm ho), hbits o b hb]
    rcases inField_or_unused o ⟨b, hb⟩ ho with hin | hno
    · rw [if_pos hin]
    · have hzero : (memReadCfg (Vector.replicate 14 0) o).getLsbD b = false := by simp [memReadCfg, Vector.get_eq_getElem]
      rw [hzero, hunused _ hno, ite_self]
  exact ⟨memReadCfg e 13, by rw [withoutFchk_export, he, ← heq]⟩

/-- An exported FCHK is the register's. -/
theorem export_fchk (c : Settings) : (exportNamed c).all (fun x => x.1 != .FCHK || x.2 == getField .FCHK c) = true := by
  rw [List.all_eq_true]
  intro x hx
  obtain ⟨f, -, rfl⟩ := List.mem_map.mp hx
  by_cases hf : f = .FCHK <;> simp [hf]

end Sys2Proof.Machine

namespace Sys2Proof.Proofs

open Sys2Proof Sys2Proof.Machine

/-- Settles O19: the fields restore the register but for FCHK, which `recompute_checksum` restores. -/
theorem importOfExport : Obligations.ImportOfExport := by
  intro m c hcurrent hunused
  obtain ⟨h2, h3, h7, h10⟩ := hunused
  obtain ⟨v, hset⟩ := setFields_importedFields (unused_getLsbD h2 h3 h7 h10)
  have hconstruct : construct m (withoutFchk (exportNamed c)) = .ok c := by
    simp only [construct, hset, recompute_write_fchk, hcurrent]
  simp only [importNamed, hconstruct, export_fchk, if_true]

end Sys2Proof.Proofs
end

section
/-! Without a built link (41_link_settings.md R136): every guard of an engine operation asks for the link first. -/

namespace Sys2Proof.Proofs

open Sys2Proof Sys2Proof.Machine

/-- Settles O21: every operation listed begins with `withLink`, whatever guards it has besides. -/
theorem enginesNeedABuiltLink : Obligations.EnginesNeedABuiltLink := by
  intro s i hl hsym hcfg hill
  cases i with
  | symR | symA | symQ | symK | symF | symData | symReserved => exact absurd rfl hsym
  | cfgSetField | cfgGetField | cfgRecompute | cfgSerialize | cfgDeserialize | cfgLinkBuild | cfgReserved => exact absurd rfl hcfg
  | txIllegal n => exact absurd rfl (hill n)
  | _ => exact withLink_none hl _

end Sys2Proof.Proofs
end

section
/-! The LMFC divider (42_lmfc.md R150 to R156): what each operation does alone and in a cycle, and how the count runs without `rst` and
`jref`. -/

namespace Sys2Proof.Machine

open Sys2Proof

/-! ## One operation (R152) -/

theorem lmfcZero_eq (s : State) (e : Engine) : lmfcZero s e = decide ((s.lmfc e).count = 0) := beq_eq_decide _ _

/-- An outcome that drives the signals and writes `v` has the frame of an LMFC operation. -/
theorem lmfcRuns_of_next {o : Out} {s : State} {e : Engine} {v : Lmfc} (h : o = .next ((s.driveLmfc e).setLmfc e v)) :
    LmfcRuns o e s v (lmfcZero s e) (jrefRise s e) := by
  rw [driveLmfc_setLmfc] at h
  cases e <;> exact h

/-- In a cycle the divider's component makes the update of R152, whichever operation its select bits name. -/
theorem lmfcRuns_instance {s : State} {lk : Link} (hl : s.link = some lk) (e : Engine) (hc : (s.lmfc e).count < lk.c) :
    LmfcRuns (runInstance ⟨.lmfc, e.num, 0⟩ s) e s (lmfcAfter lk s e) (lmfcZero s e) (jrefRise s e) := by
  refine lmfcRuns_of_next ?_
  rw [driveLmfc_setLmfc]
  exact (acts_lmfc hl e hc).runInstance

/-! ## The count over a run of cycles (R156) -/

/-- A consistent state's counts are in range (R33). -/
theorem Consistent.count_lt {s : State} {lk : Link} (hs : Consistent s) (hl : s.link = some lk) (e : Engine) :
    (s.lmfc e).count < lk.c := by
  obtain ⟨-, ⟨htx, hrx, -⟩, -⟩ := hs lk hl
  cases e
  · exact htx
  · exact hrx

/-- A divider's registers after the clock edge of a pure cycle. -/
theorem lmfc_of_regsAfter {s t : State} {lk : Link} (h : t.cur = regsAfter lk s) (e : Engine) : t.lmfc e = lmfcAfter lk s e := by
  cases e <;> simp only [State.lmfc, h, regsAfter]

/-- With neither `rst` nor `jref` a divider counts, wrapping at C (R152). -/
theorem lmfcAfter_count {s : State} {e : Engine} (hrst : s.rst e = false) (hjref : s.jref e = false) (lk : Link) :
    (lmfcAfter lk s e).count = ((s.lmfc e).count + 1) % lk.c := by
  simp [lmfcAfter, jrefRise, hrst, hjref]

/-- A run that completes goes through the state after its first step. -/
theorem run_succ_eq_next {M : Host.Core} {k : Nat} {s t : M.State} :
    M.run (k + 1) s = .next t ↔ ∃ u, M.step s = .next u ∧ M.run k u = .next t := by
  rw [Host.Core.run]
  cases M.step s <;> simp

/-- A completed run of cycles is the first cycle's pure update, which keeps the invariant and the link, and a run of the rest. -/
theorem run_cycles_cons {s t : State} {lk : Link} {inp : CycleInputs} {inps : List CycleInputs} (hinv : Inv s)
    (hl : s.link = some lk) (hp : s.program = (inp :: inps).map Item.cycle)
    (h : Host.Core.run core (inp :: inps).length s = .next t) :
    ∃ u, Inv u ∧ u.link = some lk ∧ u.cur = regsAfter lk (seen inp s) ∧ u.program = inps.map Item.cycle
      ∧ Host.Core.run core inps.length u = .next t := by
  obtain ⟨u, hstep, hrun⟩ := run_succ_eq_next.mp h
  have hkept := Proofs.invariantIsKept s u hinv hstep
  obtain rfl := cycle_of_step hinv hl hp hstep
  exact ⟨_, hkept, hl, rfl, rfl, hrun⟩

/-- Over a run of cycles with neither `rst` nor `jref` an engine's divider counts them modulo C. -/
theorem run_cycles_count {s t : State} {lk : Link} {inps : List CycleInputs} {e : Engine} (hinv : Inv s) (hl : s.link = some lk)
    (hp : s.program = inps.map Item.cycle) (h : Host.Core.run core inps.length s = .next t)
    (hfree : ∀ inp ∈ inps, (seen inp s).rst e = false ∧ (seen inp s).jref e = false) :
    (t.lmfc e).count = ((s.lmfc e).count + inps.length) % lk.c := by
  induction inps generalizing s with
  | nil =>
    cases h
    exact (Nat.mod_eq_of_lt (hinv.1.count_lt hl e)).symm
  | cons inp inps ih =>
    obtain ⟨u, hinvu, hlu, hcur, hpu, hrun⟩ := run_cycles_cons hinv hl hp h
    obtain ⟨⟨hrst, hjref⟩, hrest⟩ := List.forall_mem_cons.mp hfree
    have hcount : (u.lmfc e).count = ((s.lmfc e).count + 1) % lk.c := by
      rw [lmfc_of_regsAfter hcur, lmfcAfter_count hrst hjref]
      cases e <;> rfl
    have hrest' : ∀ inp ∈ inps, (seen inp u).rst e = false ∧ (seen inp u).jref e = false := by
      cases e <;> exact hrest
    rw [ih hinvu hlu hpu hrun hrest', hcount, Nat.mod_add_mod, List.length_cons, Nat.add_assoc, Nat.add_comm 1]

end Sys2Proof.Machine

namespace Sys2Proof.Proofs

open Sys2Proof Sys2Proof.Machine

/-- Settles O57: by induction over the cycles, each of which is the pure update, where a divider without `rst` and `jref` counts. -/
theorem lmfcRunsFreely : Obligations.LmfcRunsFreely := by
  intro s t lk inps hinv hl hrun
  let s₀ : State := { s with program := inps.map Item.cycle }
  exact ⟨run_cycles_count (s := s₀) (e := .tx) hinv hl rfl hrun, run_cycles_count (s := s₀) (e := .rx) hinv hl rfl hrun⟩

/-- Settles O23: each operation drives the signals and writes its own value; in a cycle the select bits `{rst, jref_rise}` choose. -/
theorem lmfcDividerStep : Obligations.LmfcDividerStep := by
  intro s lk e r hl hc
  simp only [← lmfcZero_eq]
  exact ⟨lmfcRuns_of_next (exec_lmfcReset hl e hc r), lmfcRuns_of_next (exec_lmfcLoad hl e hc),
    lmfcRuns_of_next (exec_lmfcCount hl e hc), lmfcRuns_instance hl e hc⟩

end Sys2Proof.Proofs
end

section
/-! The bits of words and states in wire order: slot 0 bit 7 first (43_scrambler.md R170, R171), and the two loops as maps of one bit
list to another after a history, newest bit first. -/

namespace Sys2Proof.Machine

open Sys2Proof

/-! ## Words and states as bits -/

/-- The bits of a word in wire order, slot 0 bit 7 first (R170). -/
def wireBits (w : DataWord) : List Bool := w.flatMap octetBits

@[simp] theorem wireBits_nil : wireBits [] = [] := rfl

@[simp] theorem wireBits_append (u v : DataWord) : wireBits (u ++ v) = wireBits u ++ wireBits v := List.flatMap_append

/-- The top-down bits of the slot-reversed word are the bits in wire order (R171). -/
@[simp] theorem bitsDown_swz (w : DataWord) : bitsDown (swz w) = wireBits w := by
  rw [bitsDown, swz, List.reverse_reverse, wireBits]

@[simp] theorem swz_ofBitsDown (b : List Bool) : swz (ofBitsDown b) = packOctets b := by
  rw [swz, ofBitsDown, List.reverse_reverse]

@[simp] theorem wireBits_length (w : DataWord) : (wireBits w).length = 8 * w.length := by
  rw [← bitsDown_swz, bitsDown_length, swz_length]

theorem octetBits_bitsOctet : ∀ b7 b6 b5 b4 b3 b2 b1 b0 : Bool,
    octetBits (bitsOctet b7 b6 b5 b4 b3 b2 b1 b0) = [b7, b6, b5, b4, b3, b2, b1, b0] := by decide

theorem packOctets_octetBits_append (d : Octet) (b : List Bool) : packOctets (octetBits d ++ b) = d :: packOctets b := by
  have hoctet : ∀ d : Octet, bitsOctet (d.getLsbD 7) (d.getLsbD 6) (d.getLsbD 5) (d.getLsbD 4) (d.getLsbD 3) (d.getLsbD 2)
      (d.getLsbD 1) (d.getLsbD 0) = d := by decide
  rw [octetBits]
  simp only [List.cons_append, List.nil_append, packOctets, hoctet]

/-- A word's bits in wire order give back the word. -/
@[simp] theorem packOctets_wireBits (w : DataWord) : packOctets (wireBits w) = w := by
  induction w with
  | nil => rfl
  | cons d w ih => rw [wireBits, List.flatMap_cons, packOctets_octetBits_append, ← wireBits, ih]

theorem wireBits_injective : Function.Injective wireBits := Function.LeftInverse.injective packOctets_wireBits

/-- Whole octets of bits are the bits of the word packed from them. -/
theorem wireBits_packOctets {b : List Bool} {k : Nat} (h : b.length = 8 * k) : wireBits (packOctets b) = b := by
  induction b using packOctets.induct generalizing k with
  | case1 b7 b6 b5 b4 b3 b2 b1 b0 t ih =>
    have ht : t.length = 8 * (k - 1) := by
      simp only [List.length_cons] at h
      omega
    rw [packOctets, wireBits, List.flatMap_cons, octetBits_bitsOctet, ← wireBits, ih ht]
    rfl
  | case2 b hshort =>
    have hpack : packOctets b = [] := packOctets.eq_2 b hshort
    have hlen := packOctets_length b
    rw [hpack, List.length_nil] at hlen
    obtain rfl : b = [] := List.eq_nil_of_length_eq_zero (by omega)
    rfl

@[simp] theorem stateBits_length (st : BitVec 15) : (stateBits st).length = 15 := by simp [stateBits]

theorem stateBits_injective : Function.Injective stateBits := by
  intro st st' h
  refine BitVec.eq_of_getLsbD_eq fun i hi => ?_
  have hbit := congrArg (·[i]?) h
  simpa [stateBits, hi] using hbit

theorem bitsNat_testBit (b : List Bool) (i : Nat) : (bitsNat b).testBit i = b.getD i false := by
  induction b generalizing i with
  | nil => simp [bitsNat]
  | cons x t ih =>
    cases i with
    | zero => cases x <;> simp [bitsNat, bit]
    | succ i =>
      have hhalf : (bit x + 2 * bitsNat t) / 2 = bitsNat t := by cases x <;> simp [bit]; omega
      rw [bitsNat, Nat.testBit_succ, hhalf, ih, List.getD_cons_succ]

/-- A state holds the newest 15 bits of the history it is taken from (R172, R175). -/
theorem stateBits_bitsState {h : List Bool} (hlen : 15 ≤ h.length) : stateBits (bitsState h) = h.take 15 := by
  refine List.ext_getElem (by simp [hlen]) fun i hi hi' => ?_
  have h15 : i < 15 := by simpa using hi
  have hbit : (bitsState h).getLsbD i = (h.take 15).getD i false := by
    simp only [bitsState, BitVec.getLsbD_ofNat, bitsNat_testBit, h15, decide_true, Bool.true_and]
  rw [List.getD_eq_getElem _ _ hi'] at hbit
  simpa [stateBits] using hbit

/-! ## The loops -/

/-- The bits that the loop of R172 puts before its history, in the order sent. -/
def scrBits : List Bool → List Bool → List Bool
  | [], _ => []
  | d :: t, h => (d ^^ h.getD 14 false ^^ h.getD 13 false) :: scrBits t ((d ^^ h.getD 14 false ^^ h.getD 13 false) :: h)

theorem scrLoop_eq (d h : List Bool) : scrLoop d h = (scrBits d h).reverse ++ h := by
  induction d generalizing h with
  | nil => rfl
  | cons x t ih => rw [scrLoop, ih, scrBits, List.reverse_cons, List.append_assoc, List.singleton_append]

@[simp] theorem scrBits_length (d h : List Bool) : (scrBits d h).length = d.length := by
  have hlen := scrLoop_length d h
  rw [scrLoop_eq, List.length_append, List.length_reverse] at hlen
  omega

/-- From the same history the loop of R175 undoes the loop of R172: what it XORs to each bit is what was XORed. -/
@[simp] theorem dscrLoop_scrBits (d h : List Bool) : dscrLoop (scrBits d h) h = d := by
  induction d generalizing h with
  | nil => rfl
  | cons x t ih =>
    rw [scrBits, dscrLoop, ih]
    cases x <;> cases h.getD 13 false <;> cases h.getD 14 false <;> rfl

/-- From the same history the loop of R172 undoes the loop of R175. -/
@[simp] theorem scrBits_dscrLoop (b h : List Bool) : scrBits (dscrLoop b h) h = b := by
  induction b generalizing h with
  | nil => rfl
  | cons x t ih =>
    have hx : ((x ^^ h.getD 13 false ^^ h.getD 14 false) ^^ h.getD 14 false ^^ h.getD 13 false) = x := by
      cases x <;> cases h.getD 13 false <;> cases h.getD 14 false <;> rfl
    rw [dscrLoop, scrBits, hx, ih]

theorem take_append_take {α : Type*} (k : Nat) (a b : List α) : (a ++ b.take k).take k = (a ++ b).take k := by
  rw [List.take_append, List.take_append, List.take_take, Nat.min_eq_left (Nat.sub_le k a.length)]

/-- Only the newest 15 bits of the history are read. -/
theorem dscrLoop_take_history (b h : List Bool) : dscrLoop b (h.take 15) = dscrLoop b h := by
  induction b generalizing h with
  | nil => rfl
  | cons x t ih =>
    have hnew : (x :: h.take 15).take 15 = (x :: h).take 15 := take_append_take 15 [x] h
    rw [dscrLoop, dscrLoop, ← ih (x :: h.take 15), hnew, ih]
    simp

/-- The loop goes through a second list of bits with the first list in its history. -/
theorem dscrLoop_append (b c h : List Bool) : dscrLoop (b ++ c) h = dscrLoop b h ++ dscrLoop c (b.reverse ++ h) := by
  induction b generalizing h with
  | nil => rfl
  | cons x t ih => simp [dscrLoop, ih]

/-- R170's equation of the received bits in wire order: each bit given is the XOR of the bit received and the ones 14 and 15 before. -/
theorem dscrLoop_getD {h : List Bool} {k p : Nat} {b : List Bool} (hh : h.length = k + 15) (hp : p < b.length) :
    (dscrLoop b h).getD p false
      = ((h.reverse ++ b).getD (p + k + 15) false ^^ (h.reverse ++ b).getD (p + k + 1) false ^^ (h.reverse ++ b).getD (p + k) false) := by
  induction b generalizing h k p with
  | nil => simp at hp
  | cons x t ih =>
    cases p with
    | zero =>
      have hnow : (h.reverse ++ x :: t).getD (k + 15) false = x := by
        rw [List.getD_append_right _ _ _ _ (by simp [hh])]
        simp [hh]
      have hold : ∀ i < 15, (h.reverse ++ x :: t).getD (k + i) false = h.getD (14 - i) false := by
        intro i hi
        rw [List.getD_append _ _ _ _ (by simp [hh]; omega), List.getD_reverse _ (by omega)]
        congr 1
        omega
      have hback14 := hold 1 (by decide)
      have hback15 := hold 0 (by decide)
      rw [Nat.zero_add, hnow, hback14, ← Nat.add_zero k, hback15, dscrLoop, List.getD_cons_zero]
    | succ p =>
      have hstep := ih (h := x :: h) (k := k + 1) (p := p) (by simp [hh]) (by simpa using hp)
      have hplace : p + (k + 1) = p + 1 + k := by omega
      rw [dscrLoop, List.getD_cons_succ, hstep, List.reverse_cons, List.append_assoc, List.singleton_append, hplace]

/-- From position 15 on the bits given do not depend on the history (R176). -/
theorem dscrLoop_getD_of_le {h h' b : List Bool} {p : Nat} (hh : h.length = 15) (hh' : h'.length = 15) (hp : 15 ≤ p) :
    (dscrLoop b h).getD p false = (dscrLoop b h').getD p false := by
  rcases Nat.lt_or_ge p b.length with hlt | hge
  · have hreceived : ∀ i, 15 ≤ i → (h.reverse ++ b).getD i false = (h'.reverse ++ b).getD i false := by
      intro i hi
      rw [List.getD_append_right _ _ _ _ (by simpa [hh]), List.getD_append_right _ _ _ _ (by simpa [hh'])]
      simp [hh, hh']
    rw [dscrLoop_getD (k := 0) hh hlt, dscrLoop_getD (k := 0) hh' hlt, hreceived _ (by omega), hreceived _ (by omega),
      hreceived _ (by omega)]
  · rw [List.getD_eq_default _ _ (by rwa [dscrLoop_length]), List.getD_eq_default _ _ (by rwa [dscrLoop_length])]

end Sys2Proof.Machine
end

section
/-! Scrambling and descrambling a word as what they do to its bits in wire order, and what follows: from the same state each undoes the
other (43_scrambler.md R177), and neither depends on how the octets are cut into words (R178). -/

namespace Sys2Proof.Machine

open Sys2Proof

/-! ## One word -/

theorem wireBits_scramble (st : BitVec 15) (w : DataWord) :
    wireBits (scramble st w).1 = scrBits (wireBits w) (stateBits st) := by
  have htake : (scrLoop (wireBits w) (stateBits st)).take (8 * w.length) = (scrBits (wireBits w) (stateBits st)).reverse := by
    rw [scrLoop_eq]
    exact List.take_left' (by simp)
  have hword : (scramble st w).1 = packOctets (scrBits (wireBits w) (stateBits st)) := by
    simp only [scramble, bitsDown_swz, swz_ofBitsDown, htake, List.reverse_reverse]
  rw [hword]
  exact wireBits_packOctets (k := w.length) (by rw [scrBits_length, wireBits_length])

theorem wireBits_descramble (st : BitVec 15) (w : DataWord) :
    wireBits (descramble st w).1 = dscrLoop (wireBits w) (stateBits st) := by
  simp only [descramble, bitsDown_swz, swz_ofBitsDown]
  exact wireBits_packOctets (by rw [dscrLoop_length, wireBits_length])

/-- The descrambler's state keeps the newest 15 bits received. -/
theorem stateBits_descramble (st : BitVec 15) (w : DataWord) :
    stateBits (descramble st w).2 = ((wireBits w).reverse ++ stateBits st).take 15 := by
  simp only [descramble, bitsDown_swz]
  exact stateBits_bitsState (by simp)

/-- The descrambler takes R170's XOR of the received bits, the state's 15 before them. -/
theorem wireBits_descramble_getD (st : BitVec 15) {w : DataWord} {p : Nat} (hp : p < 8 * w.length) :
    (wireBits (descramble st w).1).getD p false
      = (((stateBits st).reverse ++ wireBits w).getD (p + 15) false ^^ ((stateBits st).reverse ++ wireBits w).getD (p + 1) false
          ^^ ((stateBits st).reverse ++ wireBits w).getD p false) := by
  rw [wireBits_descramble]
  exact dscrLoop_getD (k := 0) (stateBits_length st) (by rwa [wireBits_length])

/-- The scrambler's state is the one a descrambler takes from the word sent. -/
theorem descramble_scramble_state (st : BitVec 15) (w : DataWord) : (descramble st (scramble st w).1).2 = (scramble st w).2 := by
  simp only [descramble, bitsDown_swz, wireBits_scramble, ← scrLoop_eq]
  simp only [scramble, bitsDown_swz]

/-- R177 for one word. -/
theorem descramble_scramble (st : BitVec 15) (w : DataWord) : descramble st (scramble st w).1 = (w, (scramble st w).2) := by
  refine Prod.ext (wireBits_injective ?_) (descramble_scramble_state st w)
  rw [wireBits_descramble, wireBits_scramble, dscrLoop_scrBits]

theorem scramble_descramble (st : BitVec 15) (w : DataWord) : scramble st (descramble st w).1 = (w, (descramble st w).2) := by
  have hword : (scramble st (descramble st w).1).1 = w := by
    apply wireBits_injective
    rw [wireBits_scramble, wireBits_descramble, scrBits_dscrLoop]
  refine Prod.ext hword ?_
  rw [← descramble_scramble_state, hword]

@[simp] theorem descramble_nil (st : BitVec 15) : descramble st [] = ([], st) := by
  refine Prod.ext rfl (stateBits_injective ?_)
  rw [stateBits_descramble, wireBits_nil, List.reverse_nil, List.nil_append, List.take_of_length_le (stateBits_length st).le]

/-- R178 for the descrambler: the second word finds the first in the state. -/
theorem descramble_append (st : BitVec 15) (u v : DataWord) :
    descramble st (u ++ v)
      = ((descramble st u).1 ++ (descramble (descramble st u).2 v).1, (descramble (descramble st u).2 v).2) := by
  refine Prod.ext (wireBits_injective ?_) (stateBits_injective ?_)
  · rw [wireBits_append, wireBits_descramble, wireBits_descramble, wireBits_descramble, stateBits_descramble, wireBits_append,
      dscrLoop_append, dscrLoop_take_history]
  · rw [stateBits_descramble, stateBits_descramble, stateBits_descramble, take_append_take, wireBits_append, List.reverse_append,
      List.append_assoc]

/-- R178 for the scrambler: it is the descrambler's inverse, which does not depend on the cut. -/
theorem scramble_append (st : BitVec 15) (u v : DataWord) :
    scramble st (u ++ v) = ((scramble st u).1 ++ (scramble (scramble st u).2 v).1, (scramble (scramble st u).2 v).2) := by
  have hback : descramble st ((scramble st u).1 ++ (scramble (scramble st u).2 v).1)
      = (u ++ v, (scramble (scramble st u).2 v).2) := by
    simp only [descramble_append, descramble_scramble]
  have hforth := scramble_descramble st ((scramble st u).1 ++ (scramble (scramble st u).2 v).1)
  rwa [hback] at hforth

theorem scramble_nil (st : BitVec 15) : scramble st [] = ([], st) := by
  have hforth := scramble_descramble st []
  rwa [descramble_nil] at hforth

/-- Once two octets have come, the descrambler's state holds received bits only (R176). -/
theorem descramble_state_of_two_octets {w : DataWord} (hw : 2 ≤ w.length) (st st' : BitVec 15) :
    (descramble st w).2 = (descramble st' w).2 := by
  have hlen : 15 ≤ (wireBits w).reverse.length := by
    rw [List.length_reverse, wireBits_length]
    omega
  apply stateBits_injective
  rw [stateBits_descramble, stateBits_descramble, List.take_append_of_le_length hlen, List.take_append_of_le_length hlen]

/-! ## A sequence of words -/

/-- A word operation with a state run over words in order: the words it gives, and its last state. -/
def runWords (f : BitVec 15 → DataWord → DataWord × BitVec 15) : BitVec 15 → List DataWord → List DataWord × BitVec 15
  | st, [] => ([], st)
  | st, w :: ws => ((f st w).1 :: (runWords f (f st w).2 ws).1, (runWords f (f st w).2 ws).2)

theorem foldl_eq_runWords (f : BitVec 15 → DataWord → DataWord × BitVec 15) (out ws : List DataWord) (st : BitVec 15) :
    ws.foldl (fun (a : List DataWord × BitVec 15) w => (a.1 ++ [(f a.2 w).1], (f a.2 w).2)) (out, st)
      = (out ++ (runWords f st ws).1, (runWords f st ws).2) := by
  induction ws generalizing out st with
  | nil => simp [runWords]
  | cons w ws ih => rw [List.foldl_cons, ih, runWords, List.append_assoc, List.singleton_append]

/-- An operation that does not depend on how the octets are cut into words takes a sequence of words as their octets together. -/
theorem runWords_flatten {f : BitVec 15 → DataWord → DataWord × BitVec 15} (hnil : ∀ st, f st [] = ([], st))
    (happend : ∀ st u v, f st (u ++ v) = ((f st u).1 ++ (f (f st u).2 v).1, (f (f st u).2 v).2)) (st : BitVec 15)
    (ws : List DataWord) : ((runWords f st ws).1.flatten, (runWords f st ws).2) = f st ws.flatten := by
  induction ws generalizing st with
  | nil => exact (hnil st).symm
  | cons w ws ih => rw [List.flatten_cons, happend, ← ih, runWords, List.flatten_cons]

/-- R177 over words: as each word comes back and the states stay equal, so do the rest. -/
theorem runWords_descramble_scramble (st : BitVec 15) (ws : List DataWord) :
    runWords descramble st (runWords scramble st ws).1 = (ws, (runWords scramble st ws).2) := by
  induction ws generalizing st with
  | nil => rfl
  | cons w ws ih => simp only [runWords, descramble_scramble, ih]

end Sys2Proof.Machine

namespace Sys2Proof.Proofs

open Sys2Proof Sys2Proof.Machine

/-- Settles O28, by induction over the words with equal states as the invariant. -/
theorem descramblingInvertsScrambling : Obligations.DescramblingInvertsScrambling := by
  intro st ws
  simp only [foldl_eq_runWords, List.nil_append, runWords_descramble_scramble, and_self]

/-- Settles O27. -/
theorem scramblingIsIndependentOfTheWidth : Obligations.ScramblingIsIndependentOfTheWidth := scramble_append

/-- Settles O26: the descrambler's loop is the equation of the received bits, and the bits sent descramble to the data. -/
theorem scramblingIsTheSerialEquation : Obligations.ScramblingIsTheSerialEquation := by
  intro st w wire old sent recv last
  have hsolve : ∀ d x y z : Bool, d = (x ^^ y ^^ z) → x = (d ^^ y ^^ z) := by decide
  have hlast : ∀ x : DataWord, stateBits (descramble st x).2 = last (old ++ wireBits x) := by
    intro x
    have hnewest : last (old ++ wireBits x) = (old ++ wireBits x).reverse.take 15 := List.take_reverse.symm
    rw [hnewest, stateBits_descramble, List.reverse_append, List.reverse_reverse]
  refine ⟨scramble_length st w, descramble_length st w, fun p hp => ⟨?_, wireBits_descramble_getD st hp⟩, ?_, hlast w⟩
  · have hdata := wireBits_descramble_getD st (w := (scramble st w).1) (p := p) (by rwa [scramble_length])
    rw [descramble_scramble] at hdata
    exact hsolve _ _ _ _ hdata
  · rw [← descramble_scramble_state]
    exact hlast _

/-- Settles O29: words count as their octets together; two octets fill the state, and a bit given reads 15 bits back. -/
theorem descramblerSynchronizesItself : Obligations.DescramblerSynchronizesItself := by
  intro st st' ws hws
  obtain ⟨hsent, hstate⟩ := Prod.ext_iff.mp (runWords_flatten scramble_nil scramble_append st ws)
  obtain ⟨hgiven, hstate'⟩ := Prod.ext_iff.mp (runWords_flatten descramble_nil descramble_append st' (runWords scramble st ws).1)
  dsimp only at hsent hstate hgiven hstate'
  simp only [foldl_eq_runWords, List.nil_append, hgiven, hstate', hsent, hstate]
  refine ⟨?_, fun p hp => ?_⟩
  · rw [descramble_state_of_two_octets (by rwa [scramble_length]) st' st, descramble_scramble_state]
  · change (wireBits _).getD p false = (wireBits _).getD p false
    rw [wireBits_descramble, dscrLoop_getD_of_le (stateBits_length st') (stateBits_length st) hp, ← wireBits_descramble,
      descramble_scramble]

end Sys2Proof.Proofs
end

section
/-! The scrambler's and the descrambler's operations (43_scrambler.md R172, R173, R175): what each does alone, and which of them a cycle
selects. -/

namespace Sys2Proof.Machine

open Sys2Proof

theorem Link.scr_iff (lk : Link) : lk.scr = true ↔ getField .SCR lk.cfg = 1 := beq_iff_eq

theorem scrRst_iff (s : State) (l : TxLane) : scrRst s l = true ↔ s.inp.txRst = true ∨ l.state = 0 ∨ l.state = 1 := by
  simp [scrRst, sendCgs, sendIlas, or_assoc]

theorem dscrRst_iff (s : State) (l : RxLane) : dscrRst s l = true ↔ s.inp.rxRst = true ∨ l.state ≠ 3 := by
  simp [dscrRst, receiveData]

section
variable {s : State} {lk : Link} {n : Nat} {l : TxLane} (h : TxAt s lk n l)
include h

theorem exec_scrReset (b : Bool) :
    exec (.scrReset n b) s
      = .next (s.setTx n fun x => { x with scrState := Config.seed, scrOut := List.replicate lk.opc 0, scrValid := false }) :=
  withTx_at h _

theorem exec_scrStep :
    exec (.scrStep n) s
      = .next (s.setTx n fun x =>
          { x with
            scrOut := (scramble l.scrState (s.txWord n)).1, scrState := (scramble l.scrState (s.txWord n)).2, scrValid := true }) :=
  withTx_at h _

theorem exec_scrBypass : exec (.scrBypass n) s = .next (s.setTx n fun x => { x with scrOut := s.txWord n, scrValid := true }) :=
  withTx_at h _

/-- The scrambler's select bits are `{scr_rst, SCR}` (R172). -/
theorem runInstance_scr :
    runInstance ⟨.scr, n, 0⟩ s
      = exec (if scrRst s l then .scrReset n lk.scr else if lk.scr then .scrStep n else .scrBypass n) s := by
  obtain ⟨hl, hn, -⟩ := h
  have hop : decodeSel .scr (txSel lk s l ⟨.scr, n, 0⟩) n 0
      = .ok (if scrRst s l then .scrReset n lk.scr else if lk.scr then .scrStep n else .scrBypass n) := by
    refine (sel2_bits2 (scrRst s l) lk.scr _ _ _ _).trans ?_
    cases scrRst s l <;> cases lk.scr <;> rfl
  rw [runInstance_tx hl hn 0 (by simp), runSel_ok hop]

end

section
variable {s : State} {lk : Link} {n : Nat} {l : RxLane} (h : RxAt s lk n l)
include h

theorem exec_descrReset (b : Bool) :
    exec (.descrReset n b) s
      = .next ((driveRxOut n l s).setRx n fun x =>
          { x with dscrState := Config.seed, dscrOut := List.replicate lk.opc 0, dscrValid := false }) :=
  withRx_at h _

/-- The descrambler's word is the aligned word's data (R200). -/
theorem exec_descrStep :
    exec (.descrStep n) s
      = .next ((driveRxOut n l s).setRx n fun x =>
          { x with
            dscrOut := (descramble l.dscrState (alignedWord lk s n l).data).1
            dscrState := (descramble l.dscrState (alignedWord lk s n l).data).2
            dscrValid := true }) := by
  rw [← rxDataWord_eq]
  exact withRx_at h _

theorem exec_descrBypass :
    exec (.descrBypass n) s
      = .next ((driveRxOut n l s).setRx n fun x => { x with dscrOut := (alignedWord lk s n l).data, dscrValid := true }) := by
  rw [← rxDataWord_eq]
  exact withRx_at h _

/-- The descrambler's select bits are `{dscr_rst, SCR}` (R175). -/
theorem runInstance_descr :
    runInstance ⟨.descr, n, 0⟩ s
      = exec (if dscrRst s l then .descrReset n lk.scr else if lk.scr then .descrStep n else .descrBypass n) s := by
  obtain ⟨hl, hn, -⟩ := h
  have hop : decodeSel .descr (rxSel lk s l ⟨.descr, n, 0⟩) n 0
      = .ok (if dscrRst s l then .descrReset n lk.scr else if lk.scr then .descrStep n else .descrBypass n) := by
    refine (sel2_bits2 (dscrRst s l) lk.scr _ _ _ _).trans ?_
    cases dscrRst s l <;> cases lk.scr <;> rfl
  rw [runInstance_rx hl hn 0 (by simp), runSel_ok hop]

end

end Sys2Proof.Machine

namespace Sys2Proof.Proofs

open Sys2Proof Sys2Proof.Machine

/-- Settles O24: each operation is one write of the lane's registers; in a cycle the select bits `{scr_rst, SCR}` choose. -/
theorem scramblerStep : Obligations.ScramblerStep := by
  intro s lk n l b h reset step bypass
  have hreset (b : Bool) : TxRuns (exec (.scrReset n b) s) n s reset id := exec_scrReset h b ▸ txRuns_set s n _
  have hstep : TxRuns (exec (.scrStep n) s) n s step id := exec_scrStep h ▸ txRuns_set s n _
  have hbypass : TxRuns (exec (.scrBypass n) s) n s bypass id := exec_scrBypass h ▸ txRuns_set s n _
  refine ⟨hreset b, hstep, hbypass, ?_⟩
  simp only [runInstance_scr h, ← scrRst_iff, ← Link.scr_iff]
  split_ifs
  · exact hreset _
  · exact hstep
  · exact hbypass

/-- Settles O25: each operation shows the registers and writes them once; in a cycle the select bits `{dscr_rst, SCR}` choose. -/
theorem descramblerStep : Obligations.DescramblerStep := by
  intro s lk n l b h w out reset step bypass
  have hreset (b : Bool) : RxRuns (exec (.descrReset n b) s) n s reset out := exec_descrReset h b ▸ rxRuns_write s n _ out
  have hstep : RxRuns (exec (.descrStep n) s) n s step out := exec_descrStep h ▸ rxRuns_write s n _ out
  have hbypass : RxRuns (exec (.descrBypass n) s) n s bypass out := exec_descrBypass h ▸ rxRuns_write s n _ out
  refine ⟨hreset b, hstep, hbypass, ?_⟩
  simp only [runInstance_descr h, ← dscrRst_iff, ← Link.scr_iff]
  split_ifs
  · exact hreset _
  · exact hstep
  · exact hbypass

end Sys2Proof.Proofs
end

section
/-! The Framer and the AlignInserter (44_framing_alignment.md R190 to R196): what each operation does alone, and which of them a cycle
selects. -/

namespace Sys2Proof.Machine

open Sys2Proof

/-- R190, R192: the masks of a cycle, as conditions on the slot. -/
theorem driveMasks_eq (n : Nat) (lk : Link) (l : TxLane) (s : State) :
    driveMasks n lk l s = s.driveTx n fun x =>
      { x with
        lastF := (List.range lk.opc).map fun j => decide ((j + 1) % getField .F lk.cfg = 0)
        lastMf := (List.range lk.opc).map fun j => decide (l.frCnt + 1 = lk.c ∧ j + 1 = lk.opc) } := by
  simp only [Bool.decide_and]
  rfl

/-- R196: the flag is set for `/A/` at a multiframe end and for `/F/` at a frame end that is no multiframe end. -/
theorem insertFlag_eq_decide (lk : Link) (l : TxLane) (j : Nat) (d : Octet) :
    insertFlag lk l j d
      = decide ((lastMf lk l j = true ∧ d = 0x7C) ∨ (lastF lk j = true ∧ lastMf lk l j = false ∧ d = 0xFC)) := by
  rw [Bool.eq_iff_iff, decide_eq_true_iff]
  simp [insertFlag, Laws.charA_eq, Laws.charF_eq, and_assoc]

/-- R196: the word sent has the scrambler's octets. -/
theorem insertedWord_octets (lk : Link) (l : TxLane) : (insertedWord lk l).map Sym.octet = l.scrOut := by
  rw [insertedWord, List.map_map]
  exact List.zipIdx_map_fst 0 l.scrOut

theorem insertedWord_getElem? (lk : Link) {l : TxLane} {j : Nat} {d : Octet} (h : l.scrOut[j]? = some d) :
    (insertedWord lk l)[j]? = some ⟨insertFlag lk l j d, d⟩ := by
  simp [insertedWord, h]

section
variable {s : State} {lk : Link} {n : Nat} {l : TxLane} (h : TxAt s lk n l)
include h

theorem exec_framerReset : exec (.framerReset n) s = .next ((driveMasks n lk l s).setTx n fun x => { x with frCnt := 0 }) :=
  withTx_at h _

theorem exec_framerStep :
    exec (.framerStep n) s
      = .next ((driveMasks n lk l s).setTx n fun x => { x with frCnt := if l.frCnt + 1 = lk.c then 0 else l.frCnt + 1 }) :=
  withTx_at h _

/-- The framer's select bit is `fr_rst` (R191, R253). -/
theorem runInstance_framer : runInstance ⟨.framer, n, 0⟩ s = exec (if scrRst s l then .framerReset n else .framerStep n) s := by
  obtain ⟨hl, hn, -⟩ := h
  have hop : decodeSel .framer (txSel lk s l ⟨.framer, n, 0⟩) n 0
      = .ok (if scrRst s l then .framerReset n else .framerStep n) := sel1_bit (scrRst s l) _ _
  rw [runInstance_tx hl hn 0 (by simp), runSel_ok hop]

theorem insertAt_ok {j : Nat} (hj : j < lk.opc) (b : Bool) :
    insertAt n j b s = .next (s.driveTx n fun x => { x with insCtrl := x.insCtrl.set j b }) :=
  (withTx_at h _).trans (if_pos hj)

end

end Sys2Proof.Machine

namespace Sys2Proof.Proofs

open Sys2Proof Sys2Proof.Machine

/-- Settles O30: each operation shows the masks and writes the counter once; in a cycle `fr_rst` chooses. -/
theorem framerStep : Obligations.FramerStep := by
  intro s lk n l h masks reset step
  have hreset : TxRuns (exec (.framerReset n) s) n s reset masks := by
    rw [exec_framerReset h, driveMasks_eq]
    exact txRuns_write s n reset masks
  have hstep : TxRuns (exec (.framerStep n) s) n s step masks := by
    rw [exec_framerStep h, driveMasks_eq]
    exact txRuns_write s n step masks
  refine ⟨hreset, hstep, ?_⟩
  simp only [runInstance_framer h, ← scrRst_iff]
  split_ifs
  · exact hreset
  · exact hstep

/-- Settles O31: each operation writes one flag; in a cycle the slot's select bits name the operation that writes the flag of R196, and
the word sent has that flag. -/
theorem alignInserterFlags : Obligations.AlignInserterFlags := by
  intro s lk n j l a b sel h hj put flag
  have hput (v : Bool) : TxRuns (insertAt n j v s) n s id (put v) := insertAt_ok h hj v ▸ txRuns_drive s n (put v)
  have hflag (d : Octet) : insertFlag lk l j d = flag d := insertFlag_eq_decide lk l j d
  refine ⟨hput true, hput true, hput false, ?_, insertedWord_octets lk l, fun d hd => ?_⟩
  · rw [← hflag]
    exact (acts_alignIns h hj).runInstance ▸ txRuns_drive s n _
  · rw [← hflag]
    exact insertedWord_getElem? lk hd

end Sys2Proof.Proofs
end

section
/-! The Aligner, the AlignReplacer and the Deframer (44_framing_alignment.md R198 to R206): what each operation does alone, which of the
Aligner's a cycle selects, and the slice that the Aligner shows. -/

namespace Sys2Proof.Machine

open Sys2Proof

/-! ## The lowest slot that holds `/R/` (R203) -/

theorem isR_iff (x : Sym) : isR x = true ↔ x = ⟨true, 0x1C⟩ := by
  obtain ⟨c, d⟩ := x
  simp [isR, Laws.charR_eq]

theorem lowestR_eq_findIdx? (j : Nat) (w : LinkWord) : lowestR j w = (w.findIdx? isR).map (· + j) := by
  induction w generalizing j with
  | nil => rfl
  | cons x t ih =>
    rw [lowestR, List.findIdx?_cons, ih]
    cases isR x
    · simp [Function.comp_def, Nat.add_assoc, Nat.add_comm 1 j]
    · simp

theorem lowestR_eq_some {w : LinkWord} {o : Nat} (ho : w[o]? = some ⟨true, 0x1C⟩)
    (hmin : ∀ j < o, ¬ w[j]? = some ⟨true, 0x1C⟩) : lowestR 0 w = some o := by
  obtain ⟨hlt, hat⟩ := List.getElem?_eq_some_iff.mp ho
  have hfirst : w.findIdx? isR = some o := List.findIdx?_eq_some_iff_getElem.mpr
    ⟨hlt, (isR_iff _).mpr hat, fun j hj hR => hmin j hj (List.getElem?_eq_some_iff.mpr ⟨_, (isR_iff _).mp hR⟩)⟩
  simp [lowestR_eq_findIdx?, hfirst]

theorem rFound_of_lowestR {w : LinkWord} {o : Nat} (h : lowestR 0 w = some o) : rFound w = true := by
  rw [rFound_eq_isSome 0, h, Option.isSome_some]

theorem rFound_eq_false {w : LinkWord} (h : ∀ j : Nat, ¬ w[j]? = some ⟨true, 0x1C⟩) : rFound w = false :=
  List.any_eq_false.mpr fun x hx hR =>
    have ⟨j, hj⟩ := List.getElem?_of_mem hx
    h j (hj.trans (congrArg some ((isR_iff x).mp hR)))

/-! ## The slice (R204, R206) -/

/-- R204: octets `off` and on of the previous word, then the first `off` of the current one. -/
theorem alignSlice_eq {opc off : Nat} {prev : LinkWord} (hprev : prev.length = opc) (hoff : off ≤ opc) (cur : LinkWord) :
    alignSlice opc off prev cur = prev.drop off ++ cur.take off := by
  have hdrop : (prev.drop off).length = opc - off := by rw [List.length_drop, hprev]
  rw [alignSlice, List.drop_append_of_le_length (hprev ▸ hoff), List.take_append, hdrop, Nat.sub_sub_self hoff,
    List.take_of_length_le (hdrop ▸ Nat.sub_le opc off)]

/-- R206: in a stream delayed by `k` octets the slice at `k` is the undelayed word. -/
theorem alignSlice_delayed {opc k : Nat} {u v : LinkWord} (hu : u.length = opc) (hv : v.length = opc) (hk : k ≤ opc) (w : LinkWord) :
    alignSlice opc k (u.drop (opc - k) ++ v.take (opc - k)) (v.drop (opc - k) ++ w.take (opc - k)) = v := by
  have htail (x : LinkWord) (hx : x.length = opc) : (x.drop (opc - k)).length = k := by
    rw [List.length_drop, hx, Nat.sub_sub_self hk]
  have hlen : (u.drop (opc - k) ++ v.take (opc - k)).length = opc := by
    rw [List.length_append, htail u hu, List.length_take, hv]
    omega
  rw [alignSlice_eq hlen hk, List.drop_left' (htail u hu), List.take_left' (htail v hv), List.take_append_drop]

/-! ## One operation -/

section
variable {s : State} {lk : Link} {n : Nat} {l : RxLane} (h : RxAt s lk n l)
include h

theorem exec_alignReplClear :
    exec (.alignReplClear n) s = .next (s.driveRx n fun x => { x with replaced := replaceFlags (alignedWord lk s n l) }) :=
  withRx_at h _

theorem exec_deframerPass :
    exec (.deframerPass n) s = .next (s.driveRx n fun x => { x with deframed := (alignedWord lk s n l).data }) := by
  rw [← rxDataWord_eq]
  exact withRx_at h _

theorem exec_alignerReset (b : Bool) :
    exec (.alignerReset n b) s
      = .next ((driveAligned n (alignedWord lk s n l) s).setRx n fun x =>
          { x with alPrev := List.replicate lk.opc Sym.zero, alOff := 0 }) :=
  withRx_at h _

theorem exec_alignerHold :
    exec (.alignerHold n) s
      = .next ((driveAligned n (alignedWord lk s n l) s).setRx n fun x => { x with alPrev := s.rxWord n }) :=
  withRx_at h _

theorem exec_alignerLatch {o : Nat} (ho : lowestR 0 (s.rxWord n) = some o) :
    exec (.alignerLatch n) s
      = .next ((driveAligned n (alignedWord lk s n l) s).setRx n fun x => { x with alPrev := s.rxWord n, alOff := o }) := by
  have hoff : (lowestR 0 (s.rxWord n)).getD l.alOff = o := by rw [ho, Option.getD_some]
  rw [← hoff]
  exact withRx_at h _

/-- The Aligner's select bits are `{rst, r_found}` (R203). -/
theorem runInstance_aligner :
    runInstance ⟨.aligner, n, 0⟩ s
      = exec (if s.inp.rxRst then .alignerReset n (rFound (s.rxWord n))
          else if rFound (s.rxWord n) then .alignerLatch n else .alignerHold n) s := by
  obtain ⟨hl, hn, -⟩ := h
  have hop : decodeSel .aligner (rxSel lk s l ⟨.aligner, n, 0⟩) n 0
      = .ok (if s.inp.rxRst then .alignerReset n (rFound (s.rxWord n))
          else if rFound (s.rxWord n) then .alignerLatch n else .alignerHold n) := by
    refine (sel2_bits2 s.inp.rxRst (rFound (s.rxWord n)) _ _ _ _).trans ?_
    cases s.inp.rxRst <;> cases rFound (s.rxWord n) <;> rfl
  rw [runInstance_rx hl hn 0 (by simp), runSel_ok hop]

end

end Sys2Proof.Machine

namespace Sys2Proof.Proofs

open Sys2Proof Sys2Proof.Machine

/-- Settles O32: both operations drive one signal from the aligned word, and what the inserter marked is data again once the flags are
cleared. -/
theorem replacerAndDeframerRecoverTheData : Obligations.ReplacerAndDeframerRecoverTheData := by
  constructor
  · intro s lk n l h w
    have hclear := rxRuns_drive s n fun x => { x with replaced := replaceFlags w }
    have hpass := rxRuns_drive s n fun x => { x with deframed := w.data }
    exact ⟨exec_alignReplClear h ▸ hclear, exec_deframerPass h ▸ hpass, rxDataWord_eq lk s n l⟩
  · intro lk l
    rw [← insertedWord_octets lk l]
    simp [deframe, replaceFlags, LinkWord.data]

/-- Settles O33: each operation shows the slice and writes the registers once; in a cycle the select bits `{rst, r_found}` choose, and
`r_found` is set exactly when some slot holds `/R/`. -/
theorem alignerStep : Obligations.AlignerStep := by
  intro s lk n l b h isRAt out reset take
  have hreset (b : Bool) : RxRuns (exec (.alignerReset n b) s) n s reset out := exec_alignerReset h b ▸ rxRuns_write s n reset out
  have hhold : RxRuns (exec (.alignerHold n) s) n s (fun x => { x with alPrev := s.rxWord n }) out :=
    exec_alignerHold h ▸ rxRuns_write s n _ out
  have hlatch {o : Nat} (ho : lowestR 0 (s.rxWord n) = some o) : RxRuns (exec (.alignerLatch n) s) n s (take o) out :=
    exec_alignerLatch h ho ▸ rxRuns_write s n (take o) out
  refine ⟨hreset b, hhold, fun o ho hmin => hlatch (lowestR_eq_some ho hmin), fun hrst => ?_,
    fun hrst => ⟨fun o ho hmin => ?_, fun hno => ?_⟩⟩
  · rw [runInstance_aligner h, if_pos hrst]
    exact hreset _
  · have hlow := lowestR_eq_some ho hmin
    rw [runInstance_aligner h, hrst, if_neg Bool.false_ne_true, if_pos (rFound_of_lowestR hlow)]
    exact hlatch hlow
  · rw [runInstance_aligner h, hrst, if_neg Bool.false_ne_true, rFound_eq_false hno, if_neg Bool.false_ne_true]
    exact hhold

/-- Settles O34: the slice is a tail and a head; of two delayed words they are the two parts of the undelayed one. -/
theorem alignerUndoesSubWordSkew : Obligations.AlignerUndoesSubWordSkew := by
  intro opc k u v w hu hv _ hk
  exact ⟨alignSlice_eq hu hk.le v, alignSlice_delayed hu hv hk.le w⟩

end Sys2Proof.Proofs
end

section
/-! How long an ILAS lasts (45_cgs_ilas.md R232): what every cycle of a run carries on, and where a lane stands after `k` cycles of its
ILAS, said once for both engines. -/

namespace Sys2Proof.Machine

open Sys2Proof

/-! ## Runs of cycles -/

/-- Induction over a completed run of cycles: what holds before the first, and is carried on by the pure update of each, holds after
the last. -/
theorem run_cycles_induction {P : Nat → State → Prop} {s t : State} {lk : Link} {inps : List CycleInputs} (hinv : Inv s)
    (hl : s.link = some lk) (hp : s.program = inps.map Item.cycle) (hrun : Host.Core.run core inps.length s = .next t) (hstart : P 0 s)
    (hkept : ∀ k u v inp, inps[k]? = some inp → Host.Core.run core k s = .next u → P k u → v.cur = regsAfter lk (seen inp u) →
      P (k + 1) v) : P inps.length t := by
  induction inps generalizing s P with
  | nil =>
    cases hrun
    exact hstart
  | cons inp inps ih =>
    obtain ⟨u, hstep, hrunu⟩ := run_succ_eq_next.mp hrun
    have hinvu := Proofs.invariantIsKept s u hinv hstep
    have hu := cycle_of_step hinv hl hp hstep
    have hfirst : P 1 u := hkept 0 s u inp rfl rfl hstart (congrArg State.cur hu)
    refine ih (P := fun k => P (k + 1)) hinvu ((congrArg State.link hu).trans hl) (congrArg State.program hu) hrunu hfirst ?_
    exact fun k v w inp' hk hv => hkept (k + 1) v w inp' hk (run_succ_eq_next.mpr ⟨u, hstep, hv⟩)

/-! ## A lane in its ILAS -/

/-- State code and index after `k` cycles of an ILAS of `len` cycles, where `ilas` and `data` are the codes of the engine's ILAS and data
states: before the end the index counts the cycles, at the end the data state is reached. -/
def IlasPhase (len : Nat) (ilas data : BitVec 2) (k : Nat) (state : BitVec 2) (idx : Nat) : Prop :=
  (k < len → state = ilas ∧ idx = k) ∧ (k = len → state = data)

section
variable {len k idx : Nat} {ilas data state : BitVec 2}

theorem IlasPhase.first (hlen : 0 < len) (hs : state = ilas) (hi : idx = 0) : IlasPhase len ilas data 0 state idx :=
  ⟨fun _ => ⟨hs, hi⟩, fun h => absurd h hlen.ne⟩

/-- One more cycle, in which the state is left with the last index only (R224, R228). -/
theorem IlasPhase.next (hs : state = if k + 1 = len then data else ilas) (hi : idx = min (k + 1) (len - 1)) :
    IlasPhase len ilas data (k + 1) state idx :=
  ⟨fun h => ⟨hs.trans (if_neg h.ne), by omega⟩, fun h => hs.trans (if_pos h)⟩

end

/-- A cycle of SEND_ILAS with neither `rst` nor `resync` (R224, R252). -/
theorem txAfter_sendIlas {lk : Link} {s : State} {l : TxLane} (h : l.state = 1) (hrst : s.inp.txRst = false)
    (hresync : s.inp.txResync = false) (n : Nat) :
    (txAfter lk s n l).state = (if l.ilasIdx + 1 = lk.len then 2 else 1)
      ∧ (txAfter lk s n l).ilasIdx = min (l.ilasIdx + 1) (lk.len - 1) := by
  simp [txAfter, txStateAfter, h, hrst, hresync]

/-- A cycle of RECEIVE_ILAS with neither `rst` nor `resync` nor a strict failure (R228, R262). -/
theorem rxAfter_receiveIlas {lk : Link} {s : State} {n : Nat} {l : RxLane} (h : l.state = 2) (hrst : s.inp.rxRst = false)
    (hresync : s.inp.rxResync = false) (hmatch : lk.params.strictIlas = true → icMatches lk n l = true) :
    (rxAfter lk s n l).state = (if l.icIdx + 1 = lk.len then 3 else 2)
      ∧ (rxAfter lk s n l).icIdx = min (l.icIdx + 1) (lk.len - 1) := by
  have hstrict : (lk.params.strictIlas && !icMatches lk n l) = false := by
    cases hs : lk.params.strictIlas
    · rfl
    · rw [hmatch hs]
      rfl
  simp [rxAfter, rxStateAfter, h, hrst, hresync, hstrict]

/-! ## A run of cycles within the ILAS -/

/-- TX lane `n`, if there is one, stands where `k` cycles of its ILAS lead. -/
def TxIlasPhase (lk : Link) (n k : Nat) (u : State) : Prop :=
  ∀ x, u.cur.tx[n]? = some x → IlasPhase lk.len 1 2 k x.state x.ilasIdx

/-- RX lane `n`, if there is one, stands where `k` cycles of its ILAS lead. -/
def RxIlasPhase (lk : Link) (n k : Nat) (u : State) : Prop :=
  ∀ x, u.cur.rx[n]? = some x → IlasPhase lk.len 2 3 k x.state x.icIdx

section
variable {s t : State} {lk : Link} {n : Nat} {inps : List CycleInputs} (hinv : Inv s) (hl : s.link = some lk)
  (hp : s.program = inps.map Item.cycle) (hrun : Host.Core.run core inps.length s = .next t) (hlen : inps.length ≤ lk.len)
include hinv hl hp hrun hlen

theorem run_cycles_sendIlas {l l' : TxLane} (hat : s.cur.tx[n]? = some l) (hat' : t.cur.tx[n]? = some l') (hstate : l.state = 1)
    (hidx : l.ilasIdx = 0) (hquiet : ∀ inp ∈ inps, inp.txRst = false ∧ inp.txResync = false) :
    IlasPhase lk.len 1 2 inps.length l'.state l'.ilasIdx := by
  have hstart : TxIlasPhase lk n 0 s := by
    intro x hx
    obtain rfl : l = x := Option.some_inj.mp (hat.symm.trans hx)
    exact .first (hinv.1.len_pos hl) hstate hidx
  refine run_cycles_induction (P := TxIlasPhase lk n) hinv hl hp hrun hstart (fun k u v inp hk _ hphase hv y hy => ?_) l' hat'
  rw [hv, regsAfter, List.getElem?_mapIdx] at hy
  obtain ⟨x, hx, rfl⟩ := Option.map_eq_some_iff.mp hy
  have hkLen : k < lk.len := (List.getElem?_eq_some_iff.mp hk).1.trans_le hlen
  obtain ⟨hilas, rfl⟩ := (hphase x hx).1 hkLen
  obtain ⟨hrst, hresync⟩ := hquiet inp (List.mem_of_getElem? hk)
  obtain ⟨hs, hi⟩ := txAfter_sendIlas (lk := lk) (s := seen inp u) hilas hrst hresync n
  exact .next hs hi

theorem run_cycles_receiveIlas {l l' : RxLane} (hat : s.cur.rx[n]? = some l) (hat' : t.cur.rx[n]? = some l') (hstate : l.state = 2)
    (hidx : l.icIdx = 0) (hquiet : ∀ inp ∈ inps, inp.rxRst = false ∧ inp.rxResync = false)
    (hmatch : lk.params.strictIlas = true → ∀ k u x, k < inps.length → Host.Core.run core k s = .next u → u.cur.rx[n]? = some x →
      icMatches lk n x = true) :
    IlasPhase lk.len 2 3 inps.length l'.state l'.icIdx := by
  have hstart : RxIlasPhase lk n 0 s := by
    intro x hx
    obtain rfl : l = x := Option.some_inj.mp (hat.symm.trans hx)
    exact .first (hinv.1.len_pos hl) hstate hidx
  refine run_cycles_induction (P := RxIlasPhase lk n) hinv hl hp hrun hstart (fun k u v inp hk hu hphase hv y hy => ?_) l' hat'
  rw [hv, regsAfter, List.getElem?_mapIdx] at hy
  obtain ⟨x, hx, rfl⟩ := Option.map_eq_some_iff.mp hy
  have hkInps : k < inps.length := (List.getElem?_eq_some_iff.mp hk).1
  obtain ⟨hilas, rfl⟩ := (hphase x hx).1 (hkInps.trans_le hlen)
  obtain ⟨hrst, hresync⟩ := hquiet inp (List.mem_of_getElem? hk)
  obtain ⟨hs, hi⟩ := rxAfter_receiveIlas (lk := lk) (s := seen inp u) hilas hrst hresync fun h => hmatch h _ u x hkInps hu hx
  exact .next hs hi

end

end Sys2Proof.Machine

namespace Sys2Proof.Proofs

open Sys2Proof Sys2Proof.Machine

/-- Settles O58: by induction over the cycles, where a lane stands in its ILAS is a function of how many have passed. -/
theorem ilasLastsFourMultiframes : Obligations.IlasLastsFourMultiframes := by
  intro s t lk n inps hinv hl hlen go hrun
  let s₀ : State := { s with program := inps.map Item.cycle }
  exact ⟨fun l l' hat hat' hstate hidx hquiet => run_cycles_sendIlas (s := s₀) hinv hl rfl hrun hlen hat hat' hstate hidx hquiet,
    fun l l' hat hat' hstate hidx hquiet hmatch =>
      run_cycles_receiveIlas (s := s₀) hinv hl rfl hrun hlen hat hat' hstate hidx hquiet hmatch⟩

end Sys2Proof.Proofs
end

section
/-! The CGS and ILAS generators and checkers (45_cgs_ilas.md R220 to R230): what each operation does alone, and which of them a cycle
selects. -/

namespace Sys2Proof.Machine

open Sys2Proof

/-! ## Conditions on the aligned word (R221, R230) -/

theorem Sym.eq_mk_iff {x : Sym} {c : Bool} {d : Octet} : x = ⟨c, d⟩ ↔ x.ctrl = c ∧ x.octet = d := by
  cases x
  simp

theorem cgsValid_iff (w : LinkWord) : cgsValid w = true ↔ ∀ y ∈ w, y = (⟨true, 0xBC⟩ : Sym) := by
  simp [cgsValid, Laws.charK_eq, Sym.eq_mk_iff]

theorem ilasStartValid_iff (w : LinkWord) :
    ilasStartValid w = true ↔ ∃ t, w = (⟨true, 0x1C⟩ : Sym) :: t ∧ ∀ y ∈ t, y.ctrl = false := by
  cases w with
  | nil => simp [ilasStartValid]
  | cons x t => simp [ilasStartValid, Laws.charR_eq, Sym.eq_mk_iff]

/-! ## Reset domains (R253, R266) -/

theorem ilasRst_iff (s : State) (l : TxLane) : ilasRst s l = true ↔ s.inp.txRst = true ∨ l.state = 0 := by
  simp [ilasRst, sendCgs]

theorem icRst_iff (s : State) (l : RxLane) : icRst s l = true ↔ s.inp.rxRst = true ∨ l.state ≠ 2 := by
  simp [icRst, receiveIlas]

/-! ## TX (R220, R224) -/

section
variable {s : State} {lk : Link} {n : Nat} {l : TxLane} (h : TxAt s lk n l)
include h

theorem exec_cgsGen : exec (.cgsGen n) s = .next (s.driveTx n fun x => { x with cgsWord := cgsWord lk.opc }) := withTx_at h _

/-- The ILAS generator's select bit is `ilas_rst`. -/
theorem runInstance_ilasGen : runInstance ⟨.ilasGen, n, 0⟩ s = exec (if ilasRst s l then .ilasGenReset n else .ilasGenStep n) s := by
  obtain ⟨hl, hn, -⟩ := h
  have hop : decodeSel .ilasGen (txSel lk s l ⟨.ilasGen, n, 0⟩) n 0
      = .ok (if ilasRst s l then .ilasGenReset n else .ilasGenStep n) := sel1_bit (ilasRst s l) _ _
  rw [runInstance_tx hl hn 0 (by simp), runSel_ok hop]

variable {w : LinkWord} (hw : memReadIlas lk n l.ilasIdx = some w)
include hw

theorem exec_ilasGenReset :
    exec (.ilasGenReset n) s = .next ((driveIlas n lk l w s).setTx n fun x => { x with ilasIdx := 0 }) :=
  (withTx_at h _).trans (withEntry_some hw _)

theorem exec_ilasGenStep :
    exec (.ilasGenStep n) s = .next ((driveIlas n lk l w s).setTx n fun x => { x with ilasIdx := nextIndex lk l.ilasIdx }) :=
  (withTx_at h _).trans (withEntry_some hw _)

end

/-! ## RX (R221, R228, R230) -/

section
variable {s : State} {lk : Link} {n : Nat} {l : RxLane} (h : RxAt s lk n l)
include h

theorem exec_cgsCheck :
    exec (.cgsCheck n) s = .next (s.driveRx n fun x => { x with cgsValid := cgsValid (alignedWord lk s n l) }) := withRx_at h _

theorem exec_ilasStart :
    exec (.ilasStart n) s = .next (s.driveRx n fun x => { x with startValid := ilasStartValid (alignedWord lk s n l) }) :=
  withRx_at h _

/-- The ILAS checker's select bit is `ic_rst`. -/
theorem runInstance_ilasChk : runInstance ⟨.ilasChk, n, 0⟩ s = exec (if icRst s l then .ilasChkReset n else .ilasChkStep n) s := by
  obtain ⟨hl, hn, -⟩ := h
  have hop : decodeSel .ilasChk (rxSel lk s l ⟨.ilasChk, n, 0⟩) n 0
      = .ok (if icRst s l then .ilasChkReset n else .ilasChkStep n) := sel1_bit (icRst s l) _ _
  rw [runInstance_rx hl hn 0 (by simp), runSel_ok hop]

variable {e : LinkWord} (he : memReadIlas lk n l.icIdx = some e)
include he

theorem exec_ilasChkReset :
    exec (.ilasChkReset n) s
      = .next ((driveCheck n lk l e s).setRx n fun x => { x with icIn := nextIcIn lk s (alignedWord lk s n l), icIdx := 0 }) :=
  (withRx_at h _).trans (withEntry_some he _)

theorem exec_ilasChkStep :
    exec (.ilasChkStep n) s
      = .next ((driveCheck n lk l e s).setRx n fun x =>
          { x with icIn := nextIcIn lk s (alignedWord lk s n l), icIdx := nextIndex lk l.icIdx }) :=
  (withRx_at h _).trans (withEntry_some he _)

end

/-- R224: `ilas_word` and `ilas_done` as conditions on the index. -/
theorem driveIlas_eq (n : Nat) (lk : Link) (l : TxLane) (w : LinkWord) (s : State) :
    driveIlas n lk l w s = s.driveTx n fun x => { x with ilasWord := w, ilasDone := decide (l.ilasIdx + 1 = lk.len) } := rfl

/-- R228: `ic_valid` and `ic_done` as conditions on the input register and the index. -/
theorem driveCheck_eq (n : Nat) (lk : Link) (l : RxLane) (e : LinkWord) (s : State) :
    driveCheck n lk l e s
      = s.driveRx n fun x => { x with icValid := decide (l.icIn = e), icDone := decide (l.icIdx + 1 = lk.len) } := by
  rw [driveCheck, icValid, beq_eq_decide]
  rfl

end Sys2Proof.Machine

namespace Sys2Proof.Proofs

open Sys2Proof Sys2Proof.Machine

/-- Settles O35: each operation drives one signal, and the checkers' values are exact conditions on the aligned word. -/
theorem cgsAndStartCheckers : Obligations.CgsAndStartCheckers := by
  constructor
  · intro s lk n l h
    exact exec_cgsGen h ▸ txRuns_drive s n _
  · intro s lk n l h w
    exact ⟨⟨cgsValid w, exec_cgsCheck h ▸ rxRuns_drive s n _, cgsValid_iff w⟩,
      ⟨ilasStartValid w, exec_ilasStart h ▸ rxRuns_drive s n _, ilasStartValid_iff w⟩⟩

/-- Settles O39: each operation shows the entry and writes the index once; in a cycle `ilas_rst` chooses. -/
theorem ilasGeneratorStep : Obligations.IlasGeneratorStep := by
  intro s lk n l w h hw out reset step
  have hreset : TxRuns (exec (.ilasGenReset n) s) n s reset out := by
    rw [exec_ilasGenReset h hw, driveIlas_eq]
    exact txRuns_write s n reset out
  have hstep : TxRuns (exec (.ilasGenStep n) s) n s step out := by
    rw [exec_ilasGenStep h hw, driveIlas_eq]
    exact txRuns_write s n step out
  refine ⟨hreset, hstep, ?_⟩
  simp only [runInstance_ilasGen h, ← ilasRst_iff]
  split_ifs
  · exact hreset
  · exact hstep

/-- Settles O40: each operation shows the comparison and writes the input register and the index once; in a cycle `ic_rst` chooses. -/
theorem ilasCheckerStep : Obligations.IlasCheckerStep := by
  intro s lk n l e h he out icIn reset step
  have hreset : RxRuns (exec (.ilasChkReset n) s) n s reset out := by
    rw [exec_ilasChkReset h he, driveCheck_eq]
    exact rxRuns_write s n reset out
  have hstep : RxRuns (exec (.ilasChkStep n) s) n s step out := by
    rw [exec_ilasChkStep h he, driveCheck_eq]
    exact rxRuns_write s n step out
  refine ⟨hreset, hstep, ?_⟩
  simp only [runInstance_ilasChk h, ← icRst_iff]
  split_ifs
  · exact hreset
  · exact hstep

end Sys2Proof.Proofs
end

section
/-! The ILAS tables of a built link (45_cgs_ilas.md R222, R223): the entries as octets of the lane's sequence, what two lanes' tables
share (R227), and which words the start checker accepts (R231). -/

namespace Sys2Proof.Machine

open Sys2Proof

/-! ## The sequence (R222) -/

/-- R222's table: the symbol of multiframe `mf`, position `i`. -/
theorem ilasOctet_eq {opm i : Nat} (hi : i < opm) (mf : Nat) (counter : Bool) (c : Settings) :
    ilasOctet counter opm c (mf * opm + i)
      = if i = 0 then ⟨true, 0x1C⟩
        else if i = opm - 1 then ⟨true, 0x7C⟩
        else if mf = 1 ∧ i = 1 then ⟨true, 0x9C⟩
        else if mf = 1 ∧ i ≤ 15 then ⟨false, c.toList.getD (i - 2) 0⟩
        else if counter = true then ⟨false, BitVec.ofNat 8 (mf * opm + i)⟩ else ⟨false, 0⟩ := by
  have hmf : (mf * opm + i) / opm = mf := by
    rw [Nat.mul_comm, Nat.mul_add_div (by omega), Nat.div_eq_of_lt hi, Nat.add_zero]
  have hpos : (mf * opm + i) % opm = i := by rw [Nat.mul_comm, Nat.mul_add_mod, Nat.mod_eq_of_lt hi]
  have hcfg (k : Nat) (hk : k < 14) : memReadCfg c ⟨k, hk⟩ = c.toList.getD k 0 := by
    simp [memReadCfg, Vector.get_eq_getElem, hk]
  simp only [ilasOctet, hmf, hpos, hcfg, Laws.charR_eq, Laws.charA_eq, Laws.charQ_eq]
  split_ifs <;> rfl

/-- A multiframe starts with `/R/`, and `/R/` stands nowhere else. -/
theorem ilasOctet_eq_R_iff {opm i : Nat} (hi : i < opm) (mf : Nat) (counter : Bool) (c : Settings) :
    ilasOctet counter opm c (mf * opm + i) = ⟨true, 0x1C⟩ ↔ i = 0 := by
  rw [ilasOctet_eq hi]
  split_ifs <;> simp <;> omega

/-- The flags of the sequence: first and last octet of a multiframe, and `/Q/`. -/
theorem ilasOctet_ctrl_eq_false_iff {opm i : Nat} (hi : i < opm) (mf : Nat) (counter : Bool) (c : Settings) :
    (ilasOctet counter opm c (mf * opm + i)).ctrl = false ↔ i ≠ 0 ∧ i ≠ opm - 1 ∧ ¬ (mf = 1 ∧ i = 1) := by
  rw [ilasOctet_eq hi]
  split_ifs <;> simp <;> omega

/-- Of the settings the sequence shows octet 2 at position 4 of multiframe 1 and octet 13 at position 15, and nowhere else. -/
theorem ilasOctet_congr {c d : Settings} (h : ∀ o, o ≠ 2 → o ≠ 13 → memReadCfg c o = memReadCfg d o) {opm q : Nat}
    (h4 : q ≠ opm + 4) (h15 : q ≠ opm + 15) (counter : Bool) : ilasOctet counter opm c q = ilasOctet counter opm d q := by
  simp only [ilasOctet]
  split_ifs with h0 hA hQ hsettings
  any_goals rfl
  obtain ⟨hmf, -⟩ := hsettings
  have hq := Nat.div_add_mod q opm
  rw [hmf, Nat.mul_one] at hq
  have hne2 : q % opm - 2 ≠ 2 := by omega
  have hne13 : q % opm - 2 ≠ 13 := by omega
  exact congrArg (Sym.mk false) (h _ (Fin.ne_of_val_ne hne2) (Fin.ne_of_val_ne hne13))

/-! ## The entries (R223) -/

/-- Entry `e` of a lane's table (`memReadIlas_eq_some_iff`). -/
def ilasEntry (counter : Bool) (opm opc : Nat) (c : Settings) (e : Nat) : LinkWord :=
  (List.range opc).map fun j => ilasOctet counter opm c (e * opc + j)

theorem memReadIlas_eq_some_iff {p : Params} {c : Settings} {lk : Link} (h : linkBuild p c = .ok lk) {n e : Nat} {w : LinkWord} :
    memReadIlas lk n e = some w
      ↔ e < lk.len ∧ ∃ cn, lk.laneCfg[n]? = some cn ∧ ilasEntry p.ilasCounter (lk.k * lk.f) lk.opc cn e = w := by
  obtain ⟨-, htable⟩ := linkBuild_lanes h
  by_cases he : e < lk.len
  · cases hn : lk.laneCfg[n]? <;> simp [memReadIlas, htable, he, hn, ilasTable, ilasEntry]
  · simp [memReadIlas, he]

/-- The entry that holds an octet. -/
theorem entry_of_octet {opc e j m i : Nat} (hj : j < opc) (h : e * opc + j = m * opc + i) : e = m + i / opc := by
  have hopc : 0 < opc := by omega
  calc e = (opc * e + j) / opc := by rw [Nat.mul_add_div hopc, Nat.div_eq_of_lt hj, Nat.add_zero]
    _ = (opc * m + i) / opc := by rw [Nat.mul_comm, h, Nat.mul_comm]
    _ = m + i / opc := Nat.mul_add_div hopc m i

/-! ## The start checker (R230, R231) -/

theorem ilasStartValid_map_range {opc : Nat} (hopc : 0 < opc) (f : Nat → Sym) :
    ilasStartValid ((List.range opc).map f) = true ↔ f 0 = ⟨true, 0x1C⟩ ∧ ∀ j, j + 1 < opc → (f (j + 1)).ctrl = false := by
  obtain ⟨k, rfl⟩ := Nat.exists_eq_add_one_of_ne_zero hopc.ne'
  simp [List.range_succ_eq_map, ilasStartValid_iff]

/-- Of the entries of multiframe `mf` the start checker accepts the first, unless `/Q/` stands in it. -/
theorem ilasStartValid_ilasEntry {c opc r : Nat} (hr : r < c) (hc : 2 ≤ c) (hopc : 0 < opc) (counter : Bool) (cn : Settings) (mf : Nat) :
    ilasStartValid (ilasEntry counter (c * opc) opc cn (mf * c + r)) = true ↔ r = 0 ∧ (mf = 1 → opc = 1) := by
  have hidx (j : Nat) : (mf * c + r) * opc + j = mf * (c * opc) + (r * opc + j) := by ring
  have hrow : (r + 1) * opc ≤ c * opc := Nat.mul_le_mul_right opc hr
  have htwo : 2 * opc ≤ c * opc := Nat.mul_le_mul_right opc hc
  rw [Nat.add_mul, Nat.one_mul] at hrow
  rw [ilasEntry, ilasStartValid_map_range hopc, hidx, ilasOctet_eq_R_iff (by omega)]
  constructor
  · rintro ⟨hslot, hflags⟩
    obtain rfl : r = 0 := by simpa [hopc.ne'] using hslot
    refine ⟨rfl, fun hmf => ?_⟩
    by_contra hone
    have hslot1 := hflags 0 (by omega)
    rw [hidx, ilasOctet_ctrl_eq_false_iff (by omega)] at hslot1
    obtain ⟨-, -, hnoQ⟩ := hslot1
    exact hnoQ ⟨hmf, by omega⟩
  · rintro ⟨rfl, hmf⟩
    refine ⟨by omega, fun j hj => ?_⟩
    rw [hidx, ilasOctet_ctrl_eq_false_iff (by omega)]
    omega

/-- What starts an ILAS holds `/R/`. -/
theorem ilasStartValid_eq_false {w : LinkWord} (h : (⟨true, 0x1C⟩ : Sym) ∉ w) : ilasStartValid w = false := by
  refine Bool.eq_false_iff.mpr fun hvalid => h ?_
  obtain ⟨t, rfl, -⟩ := (ilasStartValid_iff w).mp hvalid
  exact List.mem_cons_self

theorem R_not_mem_cgsWord (opc : Nat) : (⟨true, 0x1C⟩ : Sym) ∉ cgsWord opc :=
  fun h => absurd (List.eq_of_mem_replicate h) (by decide)

theorem R_not_mem_insertedWord (lk : Link) (l : TxLane) : (⟨true, 0x1C⟩ : Sym) ∉ insertedWord lk l := by
  intro h
  obtain ⟨⟨d, j⟩, -, hsym⟩ := List.mem_map.mp h
  obtain ⟨hflag, rfl⟩ := Sym.mk.inj hsym
  simp [insertFlag_eq_decide] at hflag

end Sys2Proof.Machine

namespace Sys2Proof.Proofs

open Sys2Proof Sys2Proof.Machine

/-- Settles O36: octet `q` of the sequence stands in entry `q div OPC`, slot `q mod OPC`. -/
theorem ilasTableContent : Obligations.IlasTableContent := by
  intro p c lk n cn hb hcn
  obtain ⟨-, -, -, -, hmf, -, -, hopc, -⟩ := builtLinksAreExact p c lk hb
  constructor
  · obtain ⟨-, htable⟩ := linkBuild_lanes hb
    simp [htable, hcn, ilasTable, Link.len]
  · intro mf i hmf4 hi opm q
    have hq : q < lk.len * lk.opc := by
      calc q < (mf + 1) * opm := (Nat.add_lt_add_left hi _).trans_eq (Nat.succ_mul mf opm).symm
        _ ≤ 4 * (lk.c * lk.opc) := hmf ▸ Nat.mul_le_mul_right _ hmf4
        _ = lk.len * lk.opc := (Nat.mul_assoc ..).symm
    refine ⟨_, (memReadIlas_eq_some_iff hb).mpr ⟨Nat.div_lt_of_lt_mul (Nat.mul_comm .. ▸ hq), cn, hcn, rfl⟩, by simp [ilasEntry], ?_⟩
    rw [← ilasOctet_eq hi, ilasEntry, List.getElem?_map, List.getElem?_range (Nat.mod_lt _ hopc), Option.map_some, Nat.div_add_mod']

/-- Settles O37: two lanes' settings differ in octets 2 and 13 only, which stand in the two entries excepted. -/
theorem laneTablesDifferInLidAndChecksumOnly : Obligations.LaneTablesDifferInLidAndChecksumOnly := by
  intro p c lk n m e hb hn hm h4 h15
  obtain ⟨-, -, -, -, hmf, -⟩ := builtLinksAreExact p c lk hb
  obtain ⟨cn, hcn, -, hcnOctets, -⟩ := lanesCarryTheirOwnLid p c lk n hb hn
  obtain ⟨cm, hcm, -, hcmOctets, -⟩ := lanesCarryTheirOwnLid p c lk m hb hm
  have hentry : ilasEntry p.ilasCounter (lk.k * lk.f) lk.opc cn e = ilasEntry p.ilasCounter (lk.k * lk.f) lk.opc cm e := by
    refine List.map_congr_left fun j hj => ilasOctet_congr (fun o h2 h13 => ?_) (fun h => h4 ?_) (fun h => h15 ?_) _
    · rw [hcnOctets o h2 h13, hcmOctets o h2 h13]
    · exact entry_of_octet (List.mem_range.mp hj) (hmf ▸ h)
    · exact entry_of_octet (List.mem_range.mp hj) (hmf ▸ h)
  ext w
  simp only [memReadIlas_eq_some_iff hb, hcn, hcm, hentry, Option.some_inj, exists_eq_left']

/-- Settles O38: an entry is the `r`-th of its multiframe, and starts with `/R/` if `r` is 0; `/Q/` shares the entry of the `/R/` of
multiframe 1 unless a cycle has one octet. The CGS word and the data words hold no `/R/`. -/
theorem startCheckerAcceptsMultiframeStarts : Obligations.StartCheckerAcceptsMultiframeStarts := by
  intro p c lk hb
  obtain ⟨-, -, -, -, hmf, -, hc, hopc, -⟩ := builtLinksAreExact p c lk hb
  refine ⟨fun n e w hw => ?_, ilasStartValid_eq_false (R_not_mem_cgsWord _),
    fun l => ilasStartValid_eq_false (R_not_mem_insertedWord lk l)⟩
  obtain ⟨he, cn, -, rfl⟩ := (memReadIlas_eq_some_iff hb).mp hw
  have hr : e % lk.c < lk.c := Nat.mod_lt _ (by omega)
  have hmf4 : e / lk.c < 4 := Nat.div_lt_of_lt_mul (Nat.mul_comm .. ▸ he)
  have hsplit := Nat.div_add_mod' e lk.c
  have hvalid := ilasStartValid_ilasEntry hr hc hopc p.ilasCounter cn (e / lk.c)
  rw [hsplit, ← hmf] at hvalid
  rw [hvalid]
  generalize e / lk.c = m, e % lk.c = r at *
  interval_cases m <;> omega

end Sys2Proof.Proofs
end

section
/-! What a lane's registers after a cycle do not depend on (46_link_fsm.md R256, R269): a `resync` request, its FSM and sync-loss counter
apart, and the other lanes. -/

namespace Sys2Proof.Machine

open Sys2Proof

/-! ## The resync request (R256) -/

/-- A state with other `resync` requests. -/
def State.withResync (s : State) (a b : Bool) : State := { s with inp := { s.inp with txResync := a, rxResync := b } }

theorem txAfter_resync {s : State} (h : s.inp.txResync = true) (lk : Link) (n : Nat) (l : TxLane) : (txAfter lk s n l).state = 0 := by
  simp [txAfter, txStateAfter, h]

theorem rxAfter_resync {s : State} (h : s.inp.rxResync = true) (lk : Link) (n : Nat) (l : RxLane) : (rxAfter lk s n l).state = 0 := by
  simp [rxAfter, rxStateAfter, h]

/-- Of a lane's registers the requests reach the state code and the sync-loss counter alone: the rules of all others do not name them. -/
theorem txAfter_withResync (lk : Link) (s : State) (a b : Bool) (n : Nat) (l : TxLane) :
    { txAfter lk (s.withResync a b) n l with state := 0, syncLoss := 0 } = { txAfter lk s n l with state := 0, syncLoss := 0 } := rfl

theorem rxAfter_withResync (lk : Link) (s : State) (a b : Bool) (n : Nat) (l : RxLane) :
    { rxAfter lk (s.withResync a b) n l with state := 0, syncLoss := 0 } = { rxAfter lk s n l with state := 0, syncLoss := 0 } := rfl

/-- The pure cycle does not read the rest of the program. -/
theorem regsAfter_withResync (lk : Link) (s : State) (inp : CycleInputs) (a b : Bool) (items : List Item) :
    regsAfter lk (seen { inp with txResync := a, rxResync := b } { s with program := items })
      = regsAfter lk ((seen inp s).withResync a b) := rfl

/-- Lists of the same lanes, each updated, agree on what `g` reads of them if the updates do. -/
theorem map_mapIdx_congr {α β γ : Type*} {g : β → γ} {f f' : Nat → α → β} (h : ∀ n x, g (f n x) = g (f' n x)) (xs : List α) :
    (xs.mapIdx f).map g = (xs.mapIdx f').map g :=
  List.ext_getElem (by simp) fun i _ _ => by simp [h]

/-! ## The other lanes (R269) -/

section
variable {s s' : State} {n : Nat}

theorem seen_txWord {inp inp' : CycleInputs} (h : inp.txIn[n]? = inp'.txIn[n]?) : (seen inp s).txWord n = (seen inp' s').txWord n := by
  simp only [State.txWord, seen_inp, portsOf, List.getD_eq_getElem?_getD, h]

theorem seen_rxWord {inp inp' : CycleInputs} (h : inp.rxIn[n]? = inp'.rxIn[n]?) : (seen inp s).rxWord n = (seen inp' s').rxWord n := by
  simp only [State.rxWord, seen_inp, portsOf, List.getD_eq_getElem?_getD, List.getElem?_map, h]

/-- A TX lane's update reads, of all but the lane's own registers, the divider, `rst`, `resync`, `jsync` and the lane's word. -/
theorem txAfter_congr (hlmfc : s.cur.txLmfc = s'.cur.txLmfc) (hrst : s.inp.txRst = s'.inp.txRst)
    (hresync : s.inp.txResync = s'.inp.txResync) (hjsync : s.inp.jsync = s'.inp.jsync) (hword : s.txWord n = s'.txWord n) (lk : Link) :
    txAfter lk s n = txAfter lk s' n := by
  funext l
  have hzero : lmfcZero s .tx = lmfcZero s' .tx := congrArg (·.count == 0) hlmfc
  have hstate : txStateAfter lk s l = txStateAfter lk s' l := by
    unfold txStateAfter desync
    rw [hzero, hrst, hresync, hjsync]
  unfold txAfter
  rw [hstate, hrst, hjsync, hword]

/-- An RX lane's update reads, of all but the lane's own registers, the divider, `rst`, `resync` and the lane's word. -/
theorem rxAfter_congr (hlmfc : s.cur.rxLmfc = s'.cur.rxLmfc) (hrst : s.inp.rxRst = s'.inp.rxRst)
    (hresync : s.inp.rxResync = s'.inp.rxResync) (hword : s.rxWord n = s'.rxWord n) (lk : Link) :
    rxAfter lk s n = rxAfter lk s' n := by
  funext l
  have hzero : lmfcZero s .rx = lmfcZero s' .rx := congrArg (·.count == 0) hlmfc
  have haligned : alignedWord lk s n l = alignedWord lk s' n l := by rw [alignedWord, hword, alignedWord]
  have hstate : rxStateAfter lk s n l = rxStateAfter lk s' n l := by
    unfold rxStateAfter
    rw [haligned, hzero, hrst, hresync]
  unfold rxAfter
  rw [haligned, hstate, hrst, hword]

end

theorem regsAfter_tx_getElem? (lk : Link) (s : State) (n : Nat) : (regsAfter lk s).tx[n]? = s.cur.tx[n]?.map (txAfter lk s n) :=
  List.getElem?_mapIdx

theorem regsAfter_rx_getElem? (lk : Link) (s : State) (n : Nat) : (regsAfter lk s).rx[n]? = s.cur.rx[n]?.map (rxAfter lk s n) :=
  List.getElem?_mapIdx

end Sys2Proof.Machine

namespace Sys2Proof.Proofs

open Sys2Proof Sys2Proof.Machine

/-- Settles O55: the request is a term of the two FSMs' transitions and of the two sync-loss counters, and of no other register's rule. -/
theorem resyncTouchesStatesOnly : Obligations.ResyncTouchesStatesOnly := by
  intro s t t' lk inp rest a b hinv hl hp hstep hstep'
  obtain rfl := cycle_of_step hinv hl hp hstep
  obtain rfl := cycle_of_step (s := { s with program := .cycle _ :: _ }) hinv hl rfl hstep'
  rw [regsAfter_withResync]
  refine ⟨fun h l' hl' => ?tx, fun h l' hl' => ?rx, rfl, rfl, rfl, rfl, rfl,
    map_mapIdx_congr (fun n l => (txAfter_withResync lk _ a b n l).symm) _,
    map_mapIdx_congr (fun n l => (rxAfter_withResync lk _ a b n l).symm) _⟩
  case tx =>
    obtain ⟨n, hn, rfl⟩ := List.mem_mapIdx.mp hl'
    exact txAfter_resync (s := seen inp s) h lk n _
  case rx =>
    obtain ⟨n, hn, rfl⟩ := List.mem_mapIdx.mp hl'
    exact rxAfter_resync (s := seen inp s) h lk n _

/-- Settles O56: a lane's update is one function of the lane's registers, its word, the divider and the shared inputs. -/
theorem lanesAreIndependent : Obligations.LanesAreIndependent := by
  intro s s' t t' lk inp inp' rest rest' n hinv hinv' hl hl' hp hp' hstep hstep'
  obtain rfl := cycle_of_step hinv hl hp hstep
  obtain rfl := cycle_of_step hinv' hl' hp' hstep'
  simp only [regsAfter_tx_getElem?, regsAfter_rx_getElem?, seen_cur]
  constructor
  · intro hlane hlmfc hrst hresync hjsync hword
    rw [hlane, txAfter_congr (s := seen inp s) (s' := seen inp' s') hlmfc hrst hresync hjsync (seen_txWord hword)]
  · intro hlane hlmfc hrst hresync hword
    rw [hlane, rxAfter_congr (s := seen inp s) (s' := seen inp' s') hlmfc hrst hresync (seen_rxWord hword)]

end Sys2Proof.Proofs
end

section
/-! The link state machines' operations (46_link_fsm.md R251 to R270): the transitions, counters and aggregates as the rules' conditions,
what each operation does alone, and which of them a cycle selects. -/

namespace Sys2Proof.Machine

open Sys2Proof

/-! ## TX transitions (R252, R254) -/

theorem txLmfcZero_iff (s : State) : lmfcZero s .tx = true ↔ s.cur.txLmfc.count = 0 := beq_iff_eq

theorem desync_eq_decide (lk : Link) (s : State) (l : TxLane) :
    desync lk s l = decide (s.inp.jsync = false ∧ lk.params.nDesync ≤ l.desyncCnt + 1) := by
  simp [desync]

theorem nextSendCgs_eq (s : State) :
    nextSendCgs s
      = if s.inp.txRst || s.inp.txResync then 0 else if s.inp.jsync = true ∧ s.cur.txLmfc.count = 0 then 1 else 0 := by
  simp [nextSendCgs, orFallBack_eq, txLmfcZero_iff, sendIlas, sendCgs]

theorem nextSendIlas_eq (lk : Link) (s : State) (l : TxLane) :
    nextSendIlas lk s l = if s.inp.txRst || s.inp.txResync then 0 else if l.ilasIdx + 1 = lk.len then 2 else 1 := by
  simp [nextSendIlas, orFallBack_eq, ilasDone, sendData, sendIlas]

theorem nextSendData_eq (lk : Link) (s : State) (l : TxLane) :
    nextSendData lk s l = if s.inp.txRst || s.inp.txResync then 0 else if desync lk s l then 0 else 2 := orFallBack_eq ..

/-- Without `rst`, the next state is the CGS state on `resync` and when the state's own transition leads there. -/
theorem orFallBack_eq_zero_iff (resync : Bool) (own : BitVec 2) : orFallBack false resync own = 0 ↔ resync = true ∨ own = 0 := by
  cases resync <;> simp [orFallBack]

/-- Without `rst`, SEND_DATA is left by `resync` and by `desync` (R258). -/
theorem nextSendData_eq_sendCgs_iff {s : State} (hrst : s.inp.txRst = false) (lk : Link) (l : TxLane) :
    nextSendData lk s l = sendCgs ↔ s.inp.txResync = true ∨ desync lk s l = true := by
  rw [nextSendData, hrst]
  exact (orFallBack_eq_zero_iff ..).trans (or_congr_right (Ne.ite_eq_left_iff (by decide)))

/-! ## RX transitions (R262, R268) -/

theorem rxLmfcZero_iff (s : State) : lmfcZero s .rx = true ↔ s.cur.rxLmfc.count = 0 := beq_iff_eq

theorem icValid_eq_false_iff (l : RxLane) (e : LinkWord) : icValid l e = false ↔ l.icIn ≠ e := beq_eq_false_iff_ne

theorem nextReceiveCgs_eq (s : State) (w : LinkWord) :
    nextReceiveCgs s w
      = if s.inp.rxRst || s.inp.rxResync then 0 else if s.cur.rxLmfc.count = 0 ∧ cgsValid w = true then 1 else 0 := by
  simp [nextReceiveCgs, orFallBack_eq, rxLmfcZero_iff, assertSync, receiveCgs]

theorem nextAssertSync_eq (s : State) (w : LinkWord) :
    nextAssertSync s w = if s.inp.rxRst || s.inp.rxResync then 0 else if ilasStartValid w then 2 else 1 := orFallBack_eq ..

theorem nextReceiveIlas_eq (lk : Link) (s : State) (l : RxLane) (e : LinkWord) :
    nextReceiveIlas lk s l (icValid l e)
      = if s.inp.rxRst || s.inp.rxResync then 0
        else if lk.params.strictIlas = true ∧ l.icIn ≠ e then 0 else if l.icIdx + 1 = lk.len then 3 else 2 := by
  simp [nextReceiveIlas, orFallBack_eq, icValid_eq_false_iff, icDone, receiveCgs, receiveData, receiveIlas]

theorem nextReceiveData_eq (s : State) (w : LinkWord) :
    nextReceiveData s w = if s.inp.rxRst || s.inp.rxResync then 0 else if cgsValid w then 0 else 3 := orFallBack_eq ..

/-- Without `rst`, RECEIVE_ILAS falls back on `resync` and on a strict failure. -/
theorem nextReceiveIlas_eq_receiveCgs_iff {s : State} (hrst : s.inp.rxRst = false) (lk : Link) (l : RxLane) (e : LinkWord) :
    nextReceiveIlas lk s l (icValid l e) = receiveCgs
      ↔ s.inp.rxResync = true ∨ (lk.params.strictIlas = true ∧ l.icIn ≠ e) := by
  have hother : receiveCgs ≠ if icDone lk l then receiveData else receiveIlas := by split <;> decide
  have hstrict : (lk.params.strictIlas && !icValid l e) = true ↔ lk.params.strictIlas = true ∧ l.icIn ≠ e := by
    simp [icValid_eq_false_iff]
  rw [nextReceiveIlas, hrst]
  exact (orFallBack_eq_zero_iff ..).trans (or_congr_right ((Ne.ite_eq_left_iff hother).trans hstrict))

/-- Without `rst`, RECEIVE_DATA falls back on `resync` and on a CGS word. -/
theorem nextReceiveData_eq_receiveCgs_iff {s : State} (hrst : s.inp.rxRst = false) (w : LinkWord) :
    nextReceiveData s w = receiveCgs ↔ s.inp.rxResync = true ∨ cgsValid w = true := by
  rw [nextReceiveData, hrst]
  exact (orFallBack_eq_zero_iff ..).trans (or_congr_right (Ne.ite_eq_left_iff (by decide)))

theorem rxLosesSync_iff {s : State} (hrst : s.inp.rxRst = false) (lk : Link) (l : RxLane) (e w : LinkWord) :
    rxLosesSync lk s l e w = true
      ↔ (l.state = 2 ∧ (s.inp.rxResync = true ∨ (lk.params.strictIlas = true ∧ l.icIn ≠ e)))
        ∨ (l.state = 3 ∧ (s.inp.rxResync = true ∨ cgsValid w = true)) := by
  rw [← nextReceiveIlas_eq_receiveCgs_iff hrst, ← nextReceiveData_eq_receiveCgs_iff hrst]
  simp [rxLosesSync, receiveIlas, receiveData]

/-! ## TX operations -/

/-- One cycle of a TX state drives its two outputs and writes the state register. -/
theorem txRuns_txStep (n : Nat) (out : LinkWord) (ready : Bool) (next : BitVec 2) (s : State) :
    TxRuns (.next (txStep n out ready next s)) n s (fun x => { x with state := next })
      (fun x => { x with out := out, ready := ready }) := txRuns_write ..

section
variable {s : State} {lk : Link} {n : Nat} {l : TxLane} (h : TxAt s lk n l)
include h

theorem exec_txSendCgs (hc : s.cur.txLmfc.count < lk.c) :
    exec (.txSendCgs n) s = .next (txStep n (cgsWord lk.opc) false (nextSendCgs s) s) :=
  (withTx_at h _).trans (withCount_ok (e := .tx) hc _)

theorem exec_txSendIlas {w : LinkWord} (hw : memReadIlas lk n l.ilasIdx = some w) :
    exec (.txSendIlas n) s = .next (txStep n w false (nextSendIlas lk s l) s) := (withTx_at h _).trans (withEntry_some hw _)

theorem exec_txSendData : exec (.txSendData n) s = .next (txStep n (insertedWord lk l) true (nextSendData lk s l) s) := withTx_at h _

theorem exec_txDesync :
    exec (.txDesync n) s
      = .next ((s.driveTx n fun x => { x with desync := desync lk s l }).setTx n fun x =>
          { x with desyncCnt := if s.inp.txRst || s.inp.jsync then 0 else min (l.desyncCnt + 1) lk.params.nDesync }) :=
  withTx_at h _

theorem exec_txSyncLoss :
    exec (.txSyncLoss n) s
      = .next (s.setTx n fun x =>
          { x with
            syncLoss :=
              if s.inp.txRst then 0
              else if l.state = 2 ∧ (s.inp.txResync = true ∨ desync lk s l = true) then satInc lk l.syncLoss else l.syncLoss }) := by
  refine (withTx_at h _).trans ?_
  cases hrst : s.inp.txRst <;> simp [nextSendData_eq_sendCgs_iff, hrst, sendData]

/-- The state code is the select word (R37). -/
theorem runInstance_txFsm :
    runInstance ⟨.txFsm, n, 0⟩ s
      = exec (if l.state = 0 then .txSendCgs n else if l.state = 1 then .txSendIlas n
          else if l.state = 2 then .txSendData n else .txIllegal n) s := by
  obtain ⟨hl, hn, -⟩ := h
  have hop : decodeSel .txFsm (txSel lk s l ⟨.txFsm, n, 0⟩) n 0
      = .ok (if l.state = 0 then .txSendCgs n else if l.state = 1 then .txSendIlas n
          else if l.state = 2 then .txSendData n else .txIllegal n) := sel2_toNat l.state _ _ _ _
  rw [runInstance_tx hl hn 0 (by simp), runSel_ok hop]

end

/-! ## RX operations -/

/-- One cycle of an RX state drives its three outputs and writes the state register. -/
theorem rxRuns_rxStep (n : Nat) (align jsync ready : Bool) (next : BitVec 2) (s : State) :
    RxRuns (.next (rxStep n align jsync ready next s)) n s (fun x => { x with state := next })
      (fun x => { x with align := align, jsync := jsync, ready := ready }) := rxRuns_write ..

section
variable {s : State} {lk : Link} {n : Nat} {l : RxLane} (h : RxAt s lk n l)
include h

theorem exec_rxReceiveCgs (hc : s.cur.rxLmfc.count < lk.c) :
    exec (.rxReceiveCgs n) s = .next (rxStep n true false false (nextReceiveCgs s (alignedWord lk s n l)) s) :=
  (withRx_at h _).trans (withCount_ok (e := .rx) hc _)

theorem exec_rxAssertSync :
    exec (.rxAssertSync n) s = .next (rxStep n false true false (nextAssertSync s (alignedWord lk s n l)) s) := withRx_at h _

theorem exec_rxReceiveData :
    exec (.rxReceiveData n) s = .next (rxStep n false true true (nextReceiveData s (alignedWord lk s n l)) s) := withRx_at h _

/-- The state code is the select word (R37). -/
theorem runInstance_rxFsm :
    runInstance ⟨.rxFsm, n, 0⟩ s
      = exec (if l.state = 0 then .rxReceiveCgs n else if l.state = 1 then .rxAssertSync n
          else if l.state = 2 then .rxReceiveIlas n else .rxReceiveData n) s := by
  obtain ⟨hl, hn, -⟩ := h
  have hop : decodeSel .rxFsm (rxSel lk s l ⟨.rxFsm, n, 0⟩) n 0
      = .ok (if l.state = 0 then .rxReceiveCgs n else if l.state = 1 then .rxAssertSync n
          else if l.state = 2 then .rxReceiveIlas n else .rxReceiveData n) := sel2_toNat l.state _ _ _ _
  rw [runInstance_rx hl hn 0 (by simp), runSel_ok hop]

variable {e : LinkWord} (he : memReadIlas lk n l.icIdx = some e)
include he

theorem exec_rxReceiveIlas :
    exec (.rxReceiveIlas n) s = .next (rxStep n false true false (nextReceiveIlas lk s l (icValid l e)) s) :=
  (withRx_at h _).trans (withEntry_some he _)

theorem exec_rxIlasErr :
    exec (.rxIlasErr n) s
      = .next (s.setRx n fun x =>
          { x with ilasErr := if s.inp.rxRst then 0 else if l.state = 2 ∧ l.icIn ≠ e then satInc lk l.ilasErr else l.ilasErr }) := by
  refine ((withRx_at h _).trans (withEntry_some he _)).trans ?_
  simp only [icValid_eq_false_iff, receiveIlas]

theorem exec_rxSyncLoss :
    exec (.rxSyncLoss n) s
      = .next (s.setRx n fun x =>
          { x with
            syncLoss :=
              if s.inp.rxRst then 0
              else if rxLosesSync lk s l e (alignedWord lk s n l) then satInc lk l.syncLoss else l.syncLoss }) :=
  (withRx_at h _).trans (withEntry_some he _)

end

/-! ## Aggregates (R259, R270) -/

theorem all_txReady (xs : List TxLane) : xs.all txReady = decide (∀ l ∈ xs, l.state = 2) := by
  simp [List.all_eq, txReady, sendData]

theorem all_rxReady (xs : List RxLane) : xs.all rxReady = decide (∀ l ∈ xs, l.state = 3) := by
  simp [List.all_eq, rxReady, receiveData]

theorem all_rxJsync (xs : List RxLane) : xs.all rxJsync = decide (∀ l ∈ xs, l.state = 1 ∨ l.state = 2 ∨ l.state = 3) := by
  simp [List.all_eq, rxJsync, assertSync, receiveIlas, receiveData, or_assoc]

section
variable {s : State} {lk : Link} (hl : s.link = some lk)
include hl

theorem exec_txAgg (h3 : ∀ l ∈ s.cur.tx, l.state ≠ 3) :
    exec .txAgg s = .next { s with sig := { s.sig with txReady := s.cur.tx.all txReady } } :=
  (withLink_some hl _).trans (withTxStates_ok h3 _)

theorem exec_rxAgg (hc : s.cur.rxLmfc.count < lk.c) :
    exec .rxAgg s
      = .next (s.setAgg
          (if s.inp.rxRst then ⟨false, false⟩
           else if lmfcZero s .rx then ⟨s.cur.rx.all rxJsync, s.cur.rx.all rxReady⟩ else s.cur.agg)) :=
  (withLink_some hl _).trans (withCount_ok (e := .rx) hc _)

end

end Sys2Proof.Machine

namespace Sys2Proof.Proofs

open Sys2Proof Sys2Proof.Machine

/-- Settles O41: each state's operation drives its outputs and writes one next state, and the state code is the select word. -/
theorem txStateMachine : Obligations.TxStateMachine := by
  intro s lk n l w h hw back desync go out
  refine ⟨fun hc => ?cgs, ?ilas, ?data, fun h0 => ?_, fun h1 => ?_, fun h2 => ?_⟩
  case cgs =>
    rw [exec_txSendCgs h hc, nextSendCgs_eq]
    exact txRuns_txStep ..
  case ilas =>
    rw [exec_txSendIlas h hw, nextSendIlas_eq]
    exact txRuns_txStep ..
  case data =>
    rw [exec_txSendData h, nextSendData_eq, desync_eq_decide]
    exact txRuns_txStep ..
  · simp [runInstance_txFsm h, h0]
  · simp [runInstance_txFsm h, h1]
  · simp [runInstance_txFsm h, h2]

/-- Settles O43: the timer drives `desync` and writes its count; the counter counts the two causes of an exit from SEND_DATA. -/
theorem desyncTimerAndTxCounter : Obligations.DesyncTimerAndTxCounter := by
  intro s lk n l h desync
  constructor
  · rw [exec_txDesync h, desync_eq_decide]
    exact (txRuns_write ..).congr (by simp only [Bool.or_eq_true]) rfl
  · rw [exec_txSyncLoss h, desync_eq_decide]
    exact (txRuns_set ..).congr (by simp only [decide_eq_true_eq, satInc, desync]) rfl

/-- Settles O44: each state's operation drives its outputs and writes one next state, and the state code is the select word. -/
theorem rxStateMachine : Obligations.RxStateMachine := by
  intro s lk n l e h he w back go out
  refine ⟨fun hc => ?cgs, ?sync, ?ilas, ?data, fun h0 => ?_, fun h1 => ?_, fun h2 => ?_, fun h3 => ?_⟩
  case cgs =>
    rw [exec_rxReceiveCgs h hc, nextReceiveCgs_eq]
    exact rxRuns_rxStep ..
  case sync =>
    rw [exec_rxAssertSync h, nextAssertSync_eq]
    exact rxRuns_rxStep ..
  case ilas =>
    rw [exec_rxReceiveIlas h he, nextReceiveIlas_eq]
    exact rxRuns_rxStep ..
  case data =>
    rw [exec_rxReceiveData h, nextReceiveData_eq]
    exact rxRuns_rxStep ..
  · simp [runInstance_rxFsm h, h0]
  · simp [runInstance_rxFsm h, h1]
  · simp [runInstance_rxFsm h, h2]
  · simp [runInstance_rxFsm h, h3]

/-- Settles O45: each counter's operation is one write; without `rst` the lost synchronization is one of the causes of R268. -/
theorem rxCounters : Obligations.RxCounters := by
  intro s lk n l e h he more lost
  constructor
  · rw [exec_rxIlasErr h he]
    exact rxRuns_set ..
  · rw [exec_rxSyncLoss h he]
    refine (rxRuns_set ..).congr ?_ rfl
    cases hrst : s.inp.rxRst
    · simp only [rxLosesSync_iff hrst]
      rfl
    · rfl

/-- Settles O46: both aggregates are one conjunction over the lanes, driven (TX) or sampled into the registers (RX). -/
theorem aggregatesAreTheAndOfTheLanes : Obligations.AggregatesAreTheAndOfTheLanes := by
  intro s lk hl
  constructor
  · intro h3
    rw [exec_txAgg hl h3, all_txReady]
  · intro hc
    rw [exec_rxAgg hl hc, all_rxJsync, all_rxReady]
    simp only [rxLmfcZero_iff]
    rfl

end Sys2Proof.Proofs
end

section
/-! The data path in a cycle (46_link_fsm.md R260, R261; 60_exceptions.md R297): what a TX lane does with `tx_in`, and what an RX lane
gives out, in each state. -/

namespace Sys2Proof.Machine

open Sys2Proof

/-- A TX lane outside SEND_DATA, or in `rst`, holds its data path in reset (R253). -/
theorem txAfter_of_scrRst {s : State} {l : TxLane} (h : scrRst s l = true) (lk : Link) (n : Nat) :
    (txAfter lk s n l).scrOut = List.replicate lk.opc 0 ∧ (txAfter lk s n l).scrState = 0x7F80 ∧ (txAfter lk s n l).frCnt = 0 :=
  ⟨if_pos h, if_pos h, if_pos h⟩

/-- A TX lane in SEND_DATA, without `rst`, scrambles the word given (R172, R173). -/
theorem txAfter_of_not_scrRst {s : State} {l : TxLane} (h : scrRst s l = false) (lk : Link) (n : Nat) :
    (txAfter lk s n l).scrValid = true
      ∧ (txAfter lk s n l).scrOut = if lk.scr then (scramble l.scrState (s.txWord n)).1 else s.txWord n :=
  ⟨congrArg not h, if_neg (ne_true_of_eq_false h)⟩

/-- An RX lane outside RECEIVE_DATA, or in `rst`, holds its data path in reset (R266). -/
theorem rxAfter_of_dscrRst {s : State} {l : RxLane} (h : dscrRst s l = true) (lk : Link) (n : Nat) :
    (rxAfter lk s n l).dscrValid = false ∧ (rxAfter lk s n l).dscrOut = List.replicate lk.opc 0 :=
  ⟨congrArg not h, if_pos h⟩

theorem seen_txWord_of_getElem? {inp : CycleInputs} {n : Nat} {x : DataWord} (h : inp.txIn[n]? = some x) (s : State) :
    (seen inp s).txWord n = x := by
  simp [State.txWord, portsOf, h]

end Sys2Proof.Machine

namespace Sys2Proof.Proofs

open Sys2Proof Sys2Proof.Machine

/-- Settles O59: outside its data state a lane's data path is in reset, and in SEND_DATA it takes the word given. -/
theorem dataPathIsGatedByTheStates : Obligations.DataPathIsGatedByTheStates := by
  intro s t lk inp rest n hinv hl hp hstep
  obtain ⟨-, ⟨-, -, -, -, htx, -⟩, -⟩ := hinv.1 lk hl
  obtain rfl := cycle_of_step hinv hl hp hstep
  simp only [regsAfter_tx_getElem?, regsAfter_rx_getElem?, seen_cur]
  constructor
  · intro l l' x hat hat' hx
    obtain rfl : txAfter lk (seen inp s) n l = l' := by simpa [hat] using hat'
    constructor
    · intro h2 hrst
      have hrun : scrRst (seen inp s) l = false := by simp [scrRst, portsOf, hrst, h2, sendCgs, sendIlas]
      obtain ⟨hvalid, hout⟩ := txAfter_of_not_scrRst hrun lk n
      rw [seen_txWord_of_getElem? hx] at hout
      exact ⟨hvalid, by simpa only [Link.scr_iff] using hout⟩
    · intro h2
      obtain ⟨h3, -⟩ := htx l (List.mem_of_getElem? hat)
      have hstate : l.state = 0 ∨ l.state = 1 := by
        revert h2 h3
        generalize l.state = c
        revert c
        decide
      exact txAfter_of_scrRst ((scrRst_iff _ _).mpr (.inr hstate)) lk n
  · intro l l' hat hat' h3
    obtain rfl : rxAfter lk (seen inp s) n l = l' := by simpa [hat] using hat'
    exact rxAfter_of_dscrRst ((dscrRst_iff _ _).mpr (.inr h3)) lk n

end Sys2Proof.Proofs
end

section
/-! A raise leaves everything but the answer to its caller as it was (60_exceptions.md R290). -/

namespace Sys2Proof.Proofs

open Sys2Proof Sys2Proof.Machine

/-- Settles O16: an operation that writes the settings answers `done` and one that builds a link answers `built`, so an error is the
answer of one that changed the reply only. -/
theorem configErrorsLeaveAllAsItWas : Obligations.ConfigErrorsLeaveAllAsItWas := by
  intro s t i e hport hnext hreply
  obtain ⟨r, -, -, rfl⟩ | ⟨-, c, rfl⟩ | ⟨-, lk, -, rfl⟩ := exec_cfg_cases hport hnext
  case inl =>
    have hr : r = .error e := hreply
    rw [hr]
  case inr.inl =>
    have hdone : Reply.done = .error e := hreply
    cases hdone
  case inr.inr =>
    have hbuilt : Reply.built = .error e := hreply
    cases hbuilt

end Sys2Proof.Proofs
end

section
/-! The components of a cycle one at a time (00_scope.md R12, 70_reset_and_hazards.md R341): each puts the pure cycle's values in its own
registers and signals, and in no others, so any two can change places. -/

namespace Sys2Proof.Machine

open Sys2Proof

/-! ## What a component writes and drives -/

/-- Of TX lane `n`'s next register values the component on port `p` writes its own, with those of the pure cycle. -/
def txPart (lk : Link) (s : State) (n : Nat) (p : Port) (x : TxLane) : TxLane :=
  let y := txAfter lk s n (s.txLane n)
  { state := if p = .txFsm then y.state else x.state
    ilasIdx := if p = .ilasGen then y.ilasIdx else x.ilasIdx
    scrState := if p = .scr && (scrRst s (s.txLane n) || lk.scr) then y.scrState else x.scrState
    scrOut := if p = .scr then y.scrOut else x.scrOut
    scrValid := if p = .scr then y.scrValid else x.scrValid
    frCnt := if p = .framer then y.frCnt else x.frCnt
    desyncCnt := if p = .txDesync then y.desyncCnt else x.desyncCnt
    syncLoss := if p = .txSyncLoss then y.syncLoss else x.syncLoss }

/-- Of TX lane `n`'s signals the component on port `p`, at slot `j`, drives its own. -/
def txSigPart (lk : Link) (s : State) (n : Nat) (p : Port) (j : Nat) (x : TxSig) : TxSig :=
  let y := txSigIn lk s n (s.txLane n)
  { out := if p = .txFsm then y.out else x.out
    ready := if p = .txFsm then y.ready else x.ready
    cgsWord := if p = .cgsGen then y.cgsWord else x.cgsWord
    ilasWord := if p = .ilasGen then y.ilasWord else x.ilasWord
    ilasDone := if p = .ilasGen then y.ilasDone else x.ilasDone
    desync := if p = .txDesync then y.desync else x.desync
    lastF := if p = .framer then y.lastF else x.lastF
    lastMf := if p = .framer then y.lastMf else x.lastMf
    insCtrl :=
      if p = .alignIns then x.insCtrl.set j (insertFlag lk (s.txLane n) j ((s.txLane n).scrOut.getD j 0)) else x.insCtrl }

/-- Of RX lane `n`'s next register values the component on port `p` writes its own, with those of the pure cycle. -/
def rxPart (lk : Link) (s : State) (n : Nat) (p : Port) (x : RxLane) : RxLane :=
  let y := rxAfter lk s n (s.rxLane n)
  { state := if p = .rxFsm then y.state else x.state
    alPrev := if p = .aligner then y.alPrev else x.alPrev
    alOff := if p = .aligner && (s.inp.rxRst || rFound (s.rxWord n)) then y.alOff else x.alOff
    icIn := if p = .ilasChk then y.icIn else x.icIn
    icIdx := if p = .ilasChk then y.icIdx else x.icIdx
    dscrState := if p = .descr && (dscrRst s (s.rxLane n) || lk.scr) then y.dscrState else x.dscrState
    dscrOut := if p = .descr then y.dscrOut else x.dscrOut
    dscrValid := if p = .descr then y.dscrValid else x.dscrValid
    ilasErr := if p = .rxIlasErr then y.ilasErr else x.ilasErr
    syncLoss := if p = .rxSyncLoss then y.syncLoss else x.syncLoss }

/-- Of RX lane `n`'s signals the component on port `p` drives its own. -/
def rxSigPart (lk : Link) (s : State) (n : Nat) (p : Port) (x : RxSig) : RxSig :=
  let y := rxSigIn lk s n (s.rxLane n)
  { aligned := if p = .aligner then y.aligned else x.aligned
    cgsValid := if p = .cgsCheck then y.cgsValid else x.cgsValid
    startValid := if p = .ilasStart then y.startValid else x.startValid
    icValid := if p = .ilasChk then y.icValid else x.icValid
    icDone := if p = .ilasChk then y.icDone else x.icDone
    replaced := if p = .alignRepl then y.replaced else x.replaced
    deframed := if p = .deframer then y.deframed else x.deframed
    out := if p = .descr then y.out else x.out
    outValid := if p = .descr then y.outValid else x.outValid
    align := if p = .rxFsm then y.align else x.align
    jsync := if p = .rxFsm then y.jsync else x.jsync
    ready := if p = .rxFsm then y.ready else x.ready }

/-- What a component makes of the next register values. -/
def componentWrite (lk : Link) (s : State) (i : Instance) (N : Regs) : Regs :=
  { txLmfc := if i.port = .lmfc ∧ i.lane = 0 then lmfcAfter lk s .tx else N.txLmfc
    rxLmfc := if i.port = .lmfc ∧ i.lane = 1 then lmfcAfter lk s .rx else N.rxLmfc
    tx := N.tx.modify i.lane (txPart lk s i.lane i.port)
    rx := N.rx.modify i.lane (rxPart lk s i.lane i.port)
    agg := if i.port = .rxAgg then aggAfter s else N.agg }

/-- What a component makes of the signals. -/
def componentDrive (lk : Link) (s : State) (i : Instance) (G : Sig) : Sig :=
  { txLmfcZero := if i.port = .lmfc ∧ i.lane = 0 then lmfcZero s .tx else G.txLmfcZero
    txJrefRise := if i.port = .lmfc ∧ i.lane = 0 then jrefRise s .tx else G.txJrefRise
    rxLmfcZero := if i.port = .lmfc ∧ i.lane = 1 then lmfcZero s .rx else G.rxLmfcZero
    rxJrefRise := if i.port = .lmfc ∧ i.lane = 1 then jrefRise s .rx else G.rxJrefRise
    txReady := if i.port = .txAgg then s.cur.tx.all (fun l => l.state == 2) else G.txReady
    tx := G.tx.modify i.lane (txSigPart lk s i.lane i.port i.slot)
    rx := G.rx.modify i.lane (rxSigPart lk s i.lane i.port) }

/-! ## Two of them, in either order -/

/-- Whoever writes a register writes the same value, so the order of two writers does not matter. -/
theorem write_comm {α : Type*} (P Q : Prop) [Decidable P] [Decidable Q] (v x : α) :
    (if P then v else if Q then v else x) = if Q then v else if P then v else x := by
  split_ifs <;> rfl

/-- The same for two slots of one word, where what is written in a slot is a function `f` of the slot. -/
theorem set_comm_of_slots {α : Type*} (f : Nat → α) (j k : Nat) (xs : List α) :
    (xs.set k (f k)).set j (f j) = (xs.set j (f j)).set k (f k) := by
  by_cases hkj : k = j
  · rw [hkj]
  · exact List.set_comm _ _ hkj

/-- The same for two lanes of an engine, if writes to one lane change places. -/
theorem modify_comm {α : Type*} {f g : Nat → α → α} (h : ∀ n x, f n (g n x) = g n (f n x)) (m n : Nat) (xs : List α) :
    (xs.modify n (g n)).modify m (f m) = (xs.modify m (f m)).modify n (g n) := by
  by_cases hnm : n = m
  · subst hnm
    rw [List.modify_modify_eq, List.modify_modify_eq]
    exact congrArg (xs.modify n) (funext (h n))
  · exact List.modify_modify_ne _ _ _ hnm

section
variable (lk : Link) (s : State) (n : Nat) (p q : Port)

theorem txPart_comm (x : TxLane) : txPart lk s n p (txPart lk s n q x) = txPart lk s n q (txPart lk s n p x) := by
  simp only [txPart]
  congr 1 <;> exact write_comm ..

theorem rxPart_comm (x : RxLane) : rxPart lk s n p (rxPart lk s n q x) = rxPart lk s n q (rxPart lk s n p x) := by
  simp only [rxPart]
  congr 1 <;> exact write_comm ..

theorem rxSigPart_comm (x : RxSig) : rxSigPart lk s n p (rxSigPart lk s n q x) = rxSigPart lk s n q (rxSigPart lk s n p x) := by
  simp only [rxSigPart]
  congr 1 <;> exact write_comm ..

theorem txSigPart_comm (j k : Nat) (x : TxSig) :
    txSigPart lk s n p j (txSigPart lk s n q k x) = txSigPart lk s n q k (txSigPart lk s n p j x) := by
  simp only [txSigPart]
  congr 1
  case e_insCtrl =>
    split_ifs
    · exact set_comm_of_slots (fun j => insertFlag lk (s.txLane n) j ((s.txLane n).scrOut.getD j 0)) j k x.insCtrl
    all_goals rfl
  all_goals exact write_comm ..

end

section
variable (lk : Link) (s : State) (i j : Instance)

theorem componentWrite_comm (N : Regs) :
    componentWrite lk s i (componentWrite lk s j N) = componentWrite lk s j (componentWrite lk s i N) := by
  unfold componentWrite
  congr 1
  case e_tx => exact modify_comm (fun n => txPart_comm lk s n i.port j.port) ..
  case e_rx => exact modify_comm (fun n => rxPart_comm lk s n i.port j.port) ..
  all_goals exact write_comm ..

theorem componentDrive_comm (G : Sig) :
    componentDrive lk s i (componentDrive lk s j G) = componentDrive lk s j (componentDrive lk s i G) := by
  unfold componentDrive
  congr 1
  case e_tx => exact modify_comm (fun n => txSigPart_comm lk s n i.port j.port i.slot j.slot) ..
  case e_rx => exact modify_comm (fun n => rxSigPart_comm lk s n i.port j.port) ..
  all_goals exact write_comm ..

end

/-! ## Each component of a cycle acts so -/

theorem Regs.modifyTx_id (n : Nat) : Regs.modifyTx n id = id :=
  funext fun N => congrArg (fun v => { N with tx := v }) (List.modify_id n N.tx)

theorem Regs.modifyRx_id (n : Nat) : Regs.modifyRx n id = id :=
  funext fun N => congrArg (fun v => { N with rx := v }) (List.modify_id n N.rx)

theorem Sig.modifyTx_id (n : Nat) : Sig.modifyTx n id = id :=
  funext fun G => congrArg (fun v => { G with tx := v }) (List.modify_id n G.tx)

theorem Sig.modifyRx_id (n : Nat) : Sig.modifyRx n id = id :=
  funext fun G => congrArg (fun v => { G with rx := v }) (List.modify_id n G.rx)

/-- The select ports of an RX lane's components (46_link_fsm.md R261). -/
def rxLanePort : Port → Bool
  | .aligner | .cgsCheck | .ilasStart | .ilasChk | .alignRepl | .deframer | .descr | .rxFsm | .rxIlasErr | .rxSyncLoss => true
  | _ => false

theorem txLanePort_exclusive {p : Port} (h : txLanePort p = true) :
    p ≠ .lmfc ∧ p ≠ .txAgg ∧ p ≠ .rxAgg ∧ rxLanePort p = false := by
  revert h
  cases p <;> decide

theorem rxLanePort_exclusive {p : Port} (h : rxLanePort p = true) :
    p ≠ .lmfc ∧ p ≠ .txAgg ∧ p ≠ .rxAgg ∧ txLanePort p = false := by
  revert h
  cases p <;> decide

section
variable (lk : Link) (s : State) (n j : Nat) {p : Port}

/-- A component of no TX lane leaves every TX lane as it is. -/
theorem parts_of_not_txLanePort (h : txLanePort p = false) : txPart lk s n p = id ∧ txSigPart lk s n p j = id := by
  cases p with
  | txFsm | scr | framer | alignIns | cgsGen | ilasGen | txDesync | txSyncLoss => cases h
  | _ => exact ⟨rfl, rfl⟩

/-- A component of no RX lane leaves every RX lane as it is. -/
theorem parts_of_not_rxLanePort (h : rxLanePort p = false) : rxPart lk s n p = id ∧ rxSigPart lk s n p = id := by
  cases p with
  | aligner | cgsCheck | ilasStart | ilasChk | alignRepl | deframer | descr | rxFsm | rxIlasErr | rxSyncLoss => cases h
  | _ => exact ⟨rfl, rfl⟩

end

/-- Instance `i` acts in state `s` as `componentWrite` and `componentDrive` say. -/
def ActsAsComponent (lk : Link) (s : State) (i : Instance) : Prop := Acts s [i] (componentWrite lk s i) (componentDrive lk s i)

section
variable {lk : Link} {s : State} {n j : Nat} {p : Port}

theorem actsAsComponent_tx (hp : txLanePort p = true)
    (h : Acts s [⟨p, n, j⟩] (Regs.modifyTx n (txPart lk s n p)) (Sig.modifyTx n (txSigPart lk s n p j))) :
    ActsAsComponent lk s ⟨p, n, j⟩ := by
  obtain ⟨hlmfc, htxAgg, hrxAgg, hrx⟩ := txLanePort_exclusive hp
  obtain ⟨hrx, hrxSig⟩ := parts_of_not_rxLanePort lk s n hrx
  refine h.congr (funext fun N => ?_) (funext fun G => ?_)
  · simp [componentWrite, Regs.modifyTx, hlmfc, hrxAgg, hrx]
  · simp [componentDrive, Sig.modifyTx, hlmfc, htxAgg, hrxSig]

theorem actsAsComponent_rx (hp : rxLanePort p = true)
    (h : Acts s [⟨p, n, j⟩] (Regs.modifyRx n (rxPart lk s n p)) (Sig.modifyRx n (rxSigPart lk s n p))) :
    ActsAsComponent lk s ⟨p, n, j⟩ := by
  obtain ⟨hlmfc, htxAgg, hrxAgg, htx⟩ := rxLanePort_exclusive hp
  obtain ⟨htx, htxSig⟩ := parts_of_not_txLanePort lk s n j htx
  refine h.congr (funext fun N => ?_) (funext fun G => ?_)
  · simp [componentWrite, Regs.modifyRx, hlmfc, hrxAgg, htx]
  · simp [componentDrive, Sig.modifyRx, hlmfc, htxAgg, htxSig]

/-- A component of no lane changes registers and signals that are no lane's. -/
theorem actsAsComponent_shared {r : Regs → Regs} {g : Sig → Sig} (htx : txLanePort p = false) (hrx : rxLanePort p = false)
    (h : Acts s [⟨p, n, j⟩] r g) (hr : ∀ N, r N = { componentWrite lk s ⟨p, n, j⟩ N with tx := N.tx, rx := N.rx })
    (hg : ∀ G, g G = { componentDrive lk s ⟨p, n, j⟩ G with tx := G.tx, rx := G.rx }) : ActsAsComponent lk s ⟨p, n, j⟩ := by
  obtain ⟨htx, htxSig⟩ := parts_of_not_txLanePort lk s n j htx
  obtain ⟨hrx, hrxSig⟩ := parts_of_not_rxLanePort lk s n hrx
  refine h.congr (funext fun N => ?_) (funext fun G => ?_)
  · simp only [hr, componentWrite, htx, hrx, List.modify_id]
  · simp only [hg, componentDrive, htxSig, hrxSig, List.modify_id]

end

section
variable {lk : Link} {s : State} (hs : Consistent s) (hl : s.link = some lk) {i : Instance} {n : Nat}
include hs hl

theorem actsAsComponent_txInstances (hn : n < lk.lanes) (hi : i ∈ txInstances lk.opc n) : ActsAsComponent lk s i := by
  obtain ⟨hat, w, hw⟩ := hs.txAt hl hn
  have hc := hs.count_lt hl .tx
  simp only [txInstances, List.mem_append, List.mem_cons, List.mem_map, List.mem_range, List.not_mem_nil, or_false] at hi
  obtain ((rfl | rfl | rfl | rfl | rfl) | ⟨j, hj, rfl⟩) | rfl | rfl := hi
  · exact actsAsComponent_tx rfl (acts_txDesync hat)
  · exact actsAsComponent_tx rfl (acts_framer hat)
  · exact actsAsComponent_tx rfl ((acts_scr hat).congr rfl (Sig.modifyTx_id n).symm)
  · exact actsAsComponent_tx rfl ((acts_cgsGen hat).congr (Regs.modifyTx_id n).symm rfl)
  · exact actsAsComponent_tx rfl (acts_ilasGen hat hw)
  · exact actsAsComponent_tx rfl ((acts_alignIns hat hj).congr (Regs.modifyTx_id n).symm rfl)
  · exact actsAsComponent_tx rfl (acts_txFsm hat hw hc)
  · exact actsAsComponent_tx rfl ((acts_txSyncLoss hat).congr rfl (Sig.modifyTx_id n).symm)

theorem actsAsComponent_rxInstances (hn : n < lk.lanes) (hi : i ∈ rxInstances n) : ActsAsComponent lk s i := by
  obtain ⟨hat, e, he⟩ := hs.rxAt hl hn
  have hc := hs.count_lt hl .rx
  simp only [rxInstances, List.mem_cons, List.not_mem_nil, or_false] at hi
  obtain rfl | rfl | rfl | rfl | rfl | rfl | rfl | rfl | rfl | rfl := hi
  · exact actsAsComponent_rx rfl (acts_aligner hat)
  · exact actsAsComponent_rx rfl ((acts_cgsCheck hat).congr (Regs.modifyRx_id n).symm rfl)
  · exact actsAsComponent_rx rfl ((acts_ilasStart hat).congr (Regs.modifyRx_id n).symm rfl)
  · exact actsAsComponent_rx rfl (acts_ilasChk hat he)
  · exact actsAsComponent_rx rfl ((acts_alignRepl hat).congr (Regs.modifyRx_id n).symm rfl)
  · exact actsAsComponent_rx rfl ((acts_deframer hat).congr (Regs.modifyRx_id n).symm rfl)
  · exact actsAsComponent_rx rfl (acts_descr hat)
  · exact actsAsComponent_rx rfl (acts_rxFsm hat he hc)
  · exact actsAsComponent_rx rfl ((acts_rxIlasErr hat he).congr rfl (Sig.modifyRx_id n).symm)
  · exact actsAsComponent_rx rfl ((acts_rxSyncLoss hat he).congr rfl (Sig.modifyRx_id n).symm)

theorem actsAsComponent_lmfc (e : Engine) : ActsAsComponent lk s ⟨.lmfc, e.num, 0⟩ :=
  actsAsComponent_shared rfl rfl (acts_lmfc hl e (hs.count_lt hl e)) (fun _ => by cases e <;> rfl) fun _ => by cases e <;> rfl

theorem actsAsComponent_txAgg : ActsAsComponent lk s ⟨.txAgg, 0, 0⟩ := by
  obtain ⟨-, ⟨-, -, -, -, hok, -⟩, -⟩ := hs lk hl
  exact actsAsComponent_shared rfl rfl (acts_txAgg hl fun l h => (hok l h).1) (fun _ => rfl) fun _ => rfl

theorem actsAsComponent_rxAgg : ActsAsComponent lk s ⟨.rxAgg, 0, 0⟩ :=
  actsAsComponent_shared rfl rfl (acts_rxAgg hl (hs.count_lt hl .rx)) (fun _ => rfl) fun _ => rfl

/-- Every component of a cycle, whichever operation its select bits name. -/
theorem actsAsComponent_cycleInstances (hi : i ∈ cycleInstances lk.opc lk.lanes) : ActsAsComponent lk s i := by
  simp only [cycleInstances, List.mem_append, List.mem_singleton, List.mem_flatMap, List.mem_range] at hi
  obtain ((((rfl | ⟨n, hn, hi⟩) | rfl) | rfl) | ⟨n, hn, hi⟩) | rfl := hi
  · exact actsAsComponent_lmfc hs hl .tx
  · exact actsAsComponent_txInstances hs hl hn hi
  · exact actsAsComponent_txAgg hs hl
  · exact actsAsComponent_lmfc hs hl .rx
  · exact actsAsComponent_rxInstances hs hl hn hi
  · exact actsAsComponent_rxAgg hs hl

end

/-- One component and then another: their changes one after the other. -/
theorem andThen_runInstance_of_acts {s : State} {i j : Instance} {r r' : Regs → Regs} {g g' : Sig → Sig} (hi : Acts s [i] r g)
    (hj : Acts s [j] r' g') :
    andThen (runInstance i s) (runInstance j) = .next { s with nxt := r' (r s.nxt), sig := g' (g s.sig) } := by
  rw [hi.runInstance, andThen_next_left, ← runInstances_singleton]
  exact hj _ _

end Sys2Proof.Machine

namespace Sys2Proof.Proofs

open Sys2Proof Sys2Proof.Machine

/-- Settles O52: both components read the same registers and inputs, each puts the pure cycle's values in its own registers and signals,
and such writes change places. -/
theorem componentOrderDoesNotMatter : Obligations.ComponentOrderDoesNotMatter := by
  intro s lk i j hs hl hi hj
  have hacti := actsAsComponent_cycleInstances hs hl hi
  have hactj := actsAsComponent_cycleInstances hs hl hj
  rw [andThen_runInstance_of_acts hacti hactj, andThen_runInstance_of_acts hactj hacti, componentWrite_comm, componentDrive_comm]

end Sys2Proof.Proofs
end

section
/-! The engines after power-on (70_reset_and_hazards.md R330): a run of cycles completes. -/

namespace Sys2Proof.Machine

open Sys2Proof

/-- Every cycle of a run of fitting ones completes, and leaves the invariant and the link for the next. -/
theorem run_cycles_complete {s : State} {lk : Link} {inps : List CycleInputs} (hinv : Inv s) (hl : s.link = some lk)
    (hp : s.program = inps.map Item.cycle) (hfits : ∀ inp ∈ inps, fits lk.opc lk.lanes inp = true) :
    ∃ t, Host.Core.run core inps.length s = .next t ∧ t.link = some lk := by
  induction inps generalizing s with
  | nil => exact ⟨s, rfl, hl⟩
  | cons inp inps ih =>
    obtain ⟨hfit, hrest⟩ := List.forall_mem_cons.mp hfits
    have hstep := Proofs.cycleIsTheSimultaneousUpdate s lk inp _ hinv hl hp hfit
    have hkept := Proofs.invariantIsKept _ _ hinv hstep
    obtain ⟨t, hrun, hlt⟩ := ih hkept hl rfl hrest
    exact ⟨t, run_succ_eq_next.mpr ⟨_, hstep, hrun⟩, hlt⟩

end Sys2Proof.Machine

namespace Sys2Proof.Proofs

open Sys2Proof Sys2Proof.Machine

/-- Settles O53, by induction over the cycles: each is the pure update, after which the invariant and the link stand. -/
theorem runningEnginesNeverStop : Obligations.RunningEnginesNeverStop := by
  intro s lk inps hinv hl hfits
  exact run_cycles_complete (s := { s with program := inps.map Item.cycle }) hinv hl rfl hfits

end Sys2Proof.Proofs
end

section
/-! Reset (70_reset_and_hazards.md R320, R321): power-on, and a cycle with `rst`. -/

namespace Sys2Proof.Machine

open Sys2Proof

/-! ## A cycle with `rst` -/

theorem lmfcAfter_rst {s : State} {e : Engine} (h : s.rst e = true) (lk : Link) : lmfcAfter lk s e = Lmfc.reset := if_pos h

theorem txAfter_rst {s : State} (h : s.inp.txRst = true) (lk : Link) (n : Nat) (l : TxLane) :
    txAfter lk s n l = TxLane.reset lk.opc := by
  simp [txAfter, txStateAfter, TxLane.reset, h]

theorem rxAfter_rst {s : State} (h : s.inp.rxRst = true) (lk : Link) (n : Nat) (l : RxLane) :
    rxAfter lk s n l = RxLane.reset lk.opc := by
  simp [rxAfter, rxStateAfter, RxLane.reset, h]

theorem aggAfter_rst {s : State} (h : s.inp.rxRst = true) : aggAfter s = ⟨false, false⟩ := if_pos h

/-- No output or signal of a cycle reads `rst`, or the rest of the program. -/
theorem sigIn_rst (lk : Link) (s : State) (inp : CycleInputs) (a b : Bool) (items : List Item) :
    sigIn lk (seen { inp with txRst := a, rxRst := b } { s with program := items }) = sigIn lk (seen inp s) := rfl

end Sys2Proof.Machine

namespace Sys2Proof.Proofs

open Sys2Proof Sys2Proof.Machine

/-- Settles O54: `rst` comes first in the rule of every register, and in the rule of no output. -/
theorem rstResetsEveryRegister : Obligations.RstResetsEveryRegister := by
  intro s t lk inp rest hinv hl hp hstep word symbols
  obtain ⟨-, ⟨-, -, htx, hrx, -⟩, -⟩ := hinv.1 lk hl
  obtain rfl := cycle_of_step hinv hl hp hstep
  refine ⟨fun h => ⟨lmfcAfter_rst (s := seen inp s) (e := .tx) h lk, (List.length_mapIdx ..).trans htx, fun l hmem => ?tx⟩,
    fun h => ⟨lmfcAfter_rst (s := seen inp s) (e := .rx) h lk, aggAfter_rst h, (List.length_mapIdx ..).trans hrx, fun l hmem => ?rx⟩,
    fun a b t' hstep' => ?outputs⟩
  case tx =>
    obtain ⟨n, hn, rfl⟩ := List.mem_mapIdx.mp hmem
    exact txAfter_rst h lk n _
  case rx =>
    obtain ⟨n, hn, rfl⟩ := List.mem_mapIdx.mp hmem
    exact rxAfter_rst h lk n _
  case outputs =>
    obtain rfl := cycle_of_step (s := { s with program := .cycle _ :: rest }) hinv hl rfl hstep'
    exact sigIn_rst lk s inp a b _

/-- Settles O48: power-on writes these values. -/
theorem resetState : Obligations.ResetState := ⟨rfl, rfl, rfl, rfl, rfl, rfl, rfl⟩

/-- Settles O49: no link is built, and no write is pending. -/
theorem invariantHoldsAtReset : Obligations.InvariantHoldsAtReset :=
  ⟨fun _ hl => (nomatch hl), rfl⟩

end Sys2Proof.Proofs
end
